-- ==== Sys2Proof/Word.lean ====
section
/-!
DEFINITION. The two sizes of the BFA: the 32-bit storage word (spec/00_scope.md R8, R10; decision D1)
and the 8-bit byte of the backing buffer (spec/20_memory.md R40). Both are unsigned; nothing in the
BFA is signed.
-/

namespace Sys2Proof

/-- A storage word or a `req_value` / `rsp_value`: a 32-bit unsigned integer (R10, R20, R63). -/
abbrev Word := BitVec 32

/-- A byte of the backing buffer (R40). -/
abbrev Byte := BitVec 8

end Sys2Proof
end

