-- ==== Sys2Proof/Config.lean ====
section
/-!
DEFINITION. What is fixed when an instance is built and no command can change: the header type `HT`,
the word count `N`, the byte count `BYTES`, and the shape of a descriptor table
(spec/00_scope.md R3, R8; spec/10_state.md R25, R26). The tables themselves stand in
Sys2Proof/Machine/Operands.lean. The spec leaves no value open that an instruction stores or answers,
so this file declares no free value.
-/

namespace Sys2Proof

/-- The elaboration-time parameter `HT` (R3, R8, D2): one instance holds one header of one type for
its whole life. -/
inductive HeaderType where
  | ipv4
  | udp
  | tcp
  deriving DecidableEq, Repr

/-- `N`, the number of storage words (R8, R20). -/
def HeaderType.numWords : HeaderType → Nat
  | .ipv4 => 6
  | .udp => 2
  | .tcp => 5

/-- `BYTES = 4 * N`, the size of the backing buffer (R8, R40). -/
def HeaderType.numBytes (ht : HeaderType) : Nat := 4 * ht.numWords

/-- The header type of the instance that `State.reset` describes, and that the host's table words are
decoded for. The spec gives three instances and prefers none.
DESIGN CHOICE (log entry 1), unsafe: a claim about `State.reset` alone speaks of the IPv4 instance. -/
def Config.resetHeaderType : HeaderType := .ipv4

/-- A field descriptor `(widx, off, w)` (R26): the word the field lives in, the offset of its first bit
from the most significant end of that word (wire numbering, R9), and its width in bits. -/
structure FieldDesc where
  widx : Nat
  off : Nat
  w : Nat
  deriving DecidableEq, Repr

/-- A leaf field owns its bits; a composite field is a second name for a run of adjacent leaf fields,
here listed by their `fid` (R26, R112; decision D3). -/
inductive FieldKind where
  | leaf
  | composite (members : List Nat)
  deriving DecidableEq, Repr

/-- One row of a descriptor table; its position in the table is its `fid` (R64). -/
structure FieldRow where
  name : String
  kind : FieldKind
  desc : FieldDesc
  deriving DecidableEq, Repr

/-- A layout `(N, FIELDS)` (R8, R27). -/
structure Layout where
  numWords : Nat
  fields : List FieldRow
  deriving DecidableEq, Repr

end Sys2Proof
end

