-- ==== Sys2Proof/Syntax.lean ====
section
/-!
DEFINITION. The syntax of the BFA: the request a command arrives as (its encoded form), and `Instr`,
one constructor for each row of spec/opcode_table.json (spec/30_encoding.md R61, R62, R64).
-/

namespace Sys2Proof

/-- A presented command in its encoded form: the three request ports of R60 that carry it. `cmd` is
`req_cmd[7:0]` (R61), `value` is `req_value[31:0]` (R63), `data` is `req_data` as the list of its bytes,
byte 0 first (R65); R65 fixes its length at `BYTES`, and `Request.wf` says so. -/
structure Request where
  cmd : BitVec 8
  value : Word
  data : List Byte
  deriving DecidableEq, Repr

/-- The commands, in the opcode table's order. GET and SET have one constructor for each field of each
header type (R64); a SET carries `req_value` whole (R63), an LDB the buffer it loads (R65). -/
inductive Instr where
  /-- CLR, zero-initialise (R101). -/
  | clr
  /-- LDB, load the whole buffer (R102). -/
  | ldb (data : List Byte)
  /-- STB, serialise the whole buffer (R103). -/
  | stb
  /-- GET VERSION of the IPV4 header (R104, R121). -/
  | getIpv4Version
  /-- SET VERSION of the IPV4 header (R105, R121). -/
  | setIpv4Version (value : Word)
  /-- GET IHL of the IPV4 header (R104, R122). -/
  | getIpv4Ihl
  /-- SET IHL of the IPV4 header (R105, R122). -/
  | setIpv4Ihl (value : Word)
  /-- GET TOS of the IPV4 header (R104, R123). -/
  | getIpv4Tos
  /-- SET TOS of the IPV4 header (R105, R123). -/
  | setIpv4Tos (value : Word)
  /-- GET PRECEDENCE of the IPV4 header (R104, R124). -/
  | getIpv4Precedence
  /-- SET PRECEDENCE of the IPV4 header (R105, R124). -/
  | setIpv4Precedence (value : Word)
  /-- GET DELAY of the IPV4 header (R104, R125). -/
  | getIpv4Delay
  /-- SET DELAY of the IPV4 header (R105, R125). -/
  | setIpv4Delay (value : Word)
  /-- GET THROUGHPUT of the IPV4 header (R104, R126). -/
  | getIpv4Throughput
  /-- SET THROUGHPUT of the IPV4 header (R105, R126). -/
  | setIpv4Throughput (value : Word)
  /-- GET RELIABILITY of the IPV4 header (R104, R127). -/
  | getIpv4Reliability
  /-- SET RELIABILITY of the IPV4 header (R105, R127). -/
  | setIpv4Reliability (value : Word)
  /-- GET TOS_RSVD of the IPV4 header (R104, R128). -/
  | getIpv4TosRsvd
  /-- SET TOS_RSVD of the IPV4 header (R105, R128). -/
  | setIpv4TosRsvd (value : Word)
  /-- GET TOTAL_LENGTH of the IPV4 header (R104, R129). -/
  | getIpv4TotalLength
  /-- SET TOTAL_LENGTH of the IPV4 header (R105, R129). -/
  | setIpv4TotalLength (value : Word)
  /-- GET IDENTIFICATION of the IPV4 header (R104, R130). -/
  | getIpv4Identification
  /-- SET IDENTIFICATION of the IPV4 header (R105, R130). -/
  | setIpv4Identification (value : Word)
  /-- GET FLAGS of the IPV4 header (R104, R131). -/
  | getIpv4Flags
  /-- SET FLAGS of the IPV4 header (R105, R131). -/
  | setIpv4Flags (value : Word)
  /-- GET FLAGS_RSVD of the IPV4 header (R104, R132). -/
  | getIpv4FlagsRsvd
  /-- SET FLAGS_RSVD of the IPV4 header (R105, R132). -/
  | setIpv4FlagsRsvd (value : Word)
  /-- GET DF of the IPV4 header (R104, R133). -/
  | getIpv4Df
  /-- SET DF of the IPV4 header (R105, R133). -/
  | setIpv4Df (value : Word)
  /-- GET MF of the IPV4 header (R104, R134). -/
  | getIpv4Mf
  /-- SET MF of the IPV4 header (R105, R134). -/
  | setIpv4Mf (value : Word)
  /-- GET FRAGMENT_OFFSET of the IPV4 header (R104, R135). -/
  | getIpv4FragmentOffset
  /-- SET FRAGMENT_OFFSET of the IPV4 header (R105, R135). -/
  | setIpv4FragmentOffset (value : Word)
  /-- GET TTL of the IPV4 header (R104, R136). -/
  | getIpv4Ttl
  /-- SET TTL of the IPV4 header (R105, R136). -/
  | setIpv4Ttl (value : Word)
  /-- GET PROTOCOL of the IPV4 header (R104, R137). -/
  | getIpv4Protocol
  /-- SET PROTOCOL of the IPV4 header (R105, R137). -/
  | setIpv4Protocol (value : Word)
  /-- GET HEADER_CHECKSUM of the IPV4 header (R104, R138). -/
  | getIpv4HeaderChecksum
  /-- SET HEADER_CHECKSUM of the IPV4 header (R105, R138). -/
  | setIpv4HeaderChecksum (value : Word)
  /-- GET SOURCE_ADDRESS of the IPV4 header (R104, R139). -/
  | getIpv4SourceAddress
  /-- SET SOURCE_ADDRESS of the IPV4 header (R105, R139). -/
  | setIpv4SourceAddress (value : Word)
  /-- GET DESTINATION_ADDRESS of the IPV4 header (R104, R140). -/
  | getIpv4DestinationAddress
  /-- SET DESTINATION_ADDRESS of the IPV4 header (R105, R140). -/
  | setIpv4DestinationAddress (value : Word)
  /-- GET OPTIONS of the IPV4 header (R104, R141). -/
  | getIpv4Options
  /-- SET OPTIONS of the IPV4 header (R105, R141). -/
  | setIpv4Options (value : Word)
  /-- GET PADDING of the IPV4 header (R104, R142). -/
  | getIpv4Padding
  /-- SET PADDING of the IPV4 header (R105, R142). -/
  | setIpv4Padding (value : Word)
  /-- GET SOURCE_PORT of the UDP header (R104, R151). -/
  | getUdpSourcePort
  /-- SET SOURCE_PORT of the UDP header (R105, R151). -/
  | setUdpSourcePort (value : Word)
  /-- GET DESTINATION_PORT of the UDP header (R104, R152). -/
  | getUdpDestinationPort
  /-- SET DESTINATION_PORT of the UDP header (R105, R152). -/
  | setUdpDestinationPort (value : Word)
  /-- GET LENGTH of the UDP header (R104, R153). -/
  | getUdpLength
  /-- SET LENGTH of the UDP header (R105, R153). -/
  | setUdpLength (value : Word)
  /-- GET CHECKSUM of the UDP header (R104, R154). -/
  | getUdpChecksum
  /-- SET CHECKSUM of the UDP header (R105, R154). -/
  | setUdpChecksum (value : Word)
  /-- GET SOURCE_PORT of the TCP header (R104, R161). -/
  | getTcpSourcePort
  /-- SET SOURCE_PORT of the TCP header (R105, R161). -/
  | setTcpSourcePort (value : Word)
  /-- GET DESTINATION_PORT of the TCP header (R104, R162). -/
  | getTcpDestinationPort
  /-- SET DESTINATION_PORT of the TCP header (R105, R162). -/
  | setTcpDestinationPort (value : Word)
  /-- GET SEQUENCE_NUMBER of the TCP header (R104, R163). -/
  | getTcpSequenceNumber
  /-- SET SEQUENCE_NUMBER of the TCP header (R105, R163). -/
  | setTcpSequenceNumber (value : Word)
  /-- GET ACKNOWLEDGMENT_NUMBER of the TCP header (R104, R164). -/
  | getTcpAcknowledgmentNumber
  /-- SET ACKNOWLEDGMENT_NUMBER of the TCP header (R105, R164). -/
  | setTcpAcknowledgmentNumber (value : Word)
  /-- GET DATA_OFFSET of the TCP header (R104, R165). -/
  | getTcpDataOffset
  /-- SET DATA_OFFSET of the TCP header (R105, R165). -/
  | setTcpDataOffset (value : Word)
  /-- GET RESERVED of the TCP header (R104, R166). -/
  | getTcpReserved
  /-- SET RESERVED of the TCP header (R105, R166). -/
  | setTcpReserved (value : Word)
  /-- GET CWR of the TCP header (R104, R167). -/
  | getTcpCwr
  /-- SET CWR of the TCP header (R105, R167). -/
  | setTcpCwr (value : Word)
  /-- GET ECE of the TCP header (R104, R168). -/
  | getTcpEce
  /-- SET ECE of the TCP header (R105, R168). -/
  | setTcpEce (value : Word)
  /-- GET URG of the TCP header (R104, R169). -/
  | getTcpUrg
  /-- SET URG of the TCP header (R105, R169). -/
  | setTcpUrg (value : Word)
  /-- GET ACK of the TCP header (R104, R170). -/
  | getTcpAck
  /-- SET ACK of the TCP header (R105, R170). -/
  | setTcpAck (value : Word)
  /-- GET PSH of the TCP header (R104, R171). -/
  | getTcpPsh
  /-- SET PSH of the TCP header (R105, R171). -/
  | setTcpPsh (value : Word)
  /-- GET RST of the TCP header (R104, R172). -/
  | getTcpRst
  /-- SET RST of the TCP header (R105, R172). -/
  | setTcpRst (value : Word)
  /-- GET SYN of the TCP header (R104, R173). -/
  | getTcpSyn
  /-- SET SYN of the TCP header (R105, R173). -/
  | setTcpSyn (value : Word)
  /-- GET FIN of the TCP header (R104, R174). -/
  | getTcpFin
  /-- SET FIN of the TCP header (R105, R174). -/
  | setTcpFin (value : Word)
  /-- GET WINDOW of the TCP header (R104, R175). -/
  | getTcpWindow
  /-- SET WINDOW of the TCP header (R105, R175). -/
  | setTcpWindow (value : Word)
  /-- GET CHECKSUM of the TCP header (R104, R176). -/
  | getTcpChecksum
  /-- SET CHECKSUM of the TCP header (R105, R176). -/
  | setTcpChecksum (value : Word)
  /-- GET URGENT_POINTER of the TCP header (R104, R177). -/
  | getTcpUrgentPointer
  /-- SET URGENT_POINTER of the TCP header (R105, R177). -/
  | setTcpUrgentPointer (value : Word)
  deriving DecidableEq, Repr

/-- The header type whose table a GET or SET names a field of; `none` for CLR, LDB and STB, which every
instance has (R62, the opcode table's column config). -/
def Instr.header : Instr → Option HeaderType
  | .clr => none
  | .ldb _ => none
  | .stb => none
  | .getIpv4Version => some .ipv4
  | .setIpv4Version _ => some .ipv4
  | .getIpv4Ihl => some .ipv4
  | .setIpv4Ihl _ => some .ipv4
  | .getIpv4Tos => some .ipv4
  | .setIpv4Tos _ => some .ipv4
  | .getIpv4Precedence => some .ipv4
  | .setIpv4Precedence _ => some .ipv4
  | .getIpv4Delay => some .ipv4
  | .setIpv4Delay _ => some .ipv4
  | .getIpv4Throughput => some .ipv4
  | .setIpv4Throughput _ => some .ipv4
  | .getIpv4Reliability => some .ipv4
  | .setIpv4Reliability _ => some .ipv4
  | .getIpv4TosRsvd => some .ipv4
  | .setIpv4TosRsvd _ => some .ipv4
  | .getIpv4TotalLength => some .ipv4
  | .setIpv4TotalLength _ => some .ipv4
  | .getIpv4Identification => some .ipv4
  | .setIpv4Identification _ => some .ipv4
  | .getIpv4Flags => some .ipv4
  | .setIpv4Flags _ => some .ipv4
  | .getIpv4FlagsRsvd => some .ipv4
  | .setIpv4FlagsRsvd _ => some .ipv4
  | .getIpv4Df => some .ipv4
  | .setIpv4Df _ => some .ipv4
  | .getIpv4Mf => some .ipv4
  | .setIpv4Mf _ => some .ipv4
  | .getIpv4FragmentOffset => some .ipv4
  | .setIpv4FragmentOffset _ => some .ipv4
  | .getIpv4Ttl => some .ipv4
  | .setIpv4Ttl _ => some .ipv4
  | .getIpv4Protocol => some .ipv4
  | .setIpv4Protocol _ => some .ipv4
  | .getIpv4HeaderChecksum => some .ipv4
  | .setIpv4HeaderChecksum _ => some .ipv4
  | .getIpv4SourceAddress => some .ipv4
  | .setIpv4SourceAddress _ => some .ipv4
  | .getIpv4DestinationAddress => some .ipv4
  | .setIpv4DestinationAddress _ => some .ipv4
  | .getIpv4Options => some .ipv4
  | .setIpv4Options _ => some .ipv4
  | .getIpv4Padding => some .ipv4
  | .setIpv4Padding _ => some .ipv4
  | .getUdpSourcePort => some .udp
  | .setUdpSourcePort _ => some .udp
  | .getUdpDestinationPort => some .udp
  | .setUdpDestinationPort _ => some .udp
  | .getUdpLength => some .udp
  | .setUdpLength _ => some .udp
  | .getUdpChecksum => some .udp
  | .setUdpChecksum _ => some .udp
  | .getTcpSourcePort => some .tcp
  | .setTcpSourcePort _ => some .tcp
  | .getTcpDestinationPort => some .tcp
  | .setTcpDestinationPort _ => some .tcp
  | .getTcpSequenceNumber => some .tcp
  | .setTcpSequenceNumber _ => some .tcp
  | .getTcpAcknowledgmentNumber => some .tcp
  | .setTcpAcknowledgmentNumber _ => some .tcp
  | .getTcpDataOffset => some .tcp
  | .setTcpDataOffset _ => some .tcp
  | .getTcpReserved => some .tcp
  | .setTcpReserved _ => some .tcp
  | .getTcpCwr => some .tcp
  | .setTcpCwr _ => some .tcp
  | .getTcpEce => some .tcp
  | .setTcpEce _ => some .tcp
  | .getTcpUrg => some .tcp
  | .setTcpUrg _ => some .tcp
  | .getTcpAck => some .tcp
  | .setTcpAck _ => some .tcp
  | .getTcpPsh => some .tcp
  | .setTcpPsh _ => some .tcp
  | .getTcpRst => some .tcp
  | .setTcpRst _ => some .tcp
  | .getTcpSyn => some .tcp
  | .setTcpSyn _ => some .tcp
  | .getTcpFin => some .tcp
  | .setTcpFin _ => some .tcp
  | .getTcpWindow => some .tcp
  | .setTcpWindow _ => some .tcp
  | .getTcpChecksum => some .tcp
  | .setTcpChecksum _ => some .tcp
  | .getTcpUrgentPointer => some .tcp
  | .setTcpUrgentPointer _ => some .tcp

end Sys2Proof
end

