-- ==== Sys2Proof/WellFormed.lean ====
section
/-!
DEFINITION. The decidable checks: a descriptor's position (spec/10_state.md R27, spec/40_bitfield_unit.md
R90), a whole layout (R27), a request's port widths (spec/30_encoding.md R60, R65), and an instruction for
an instance (R64, R65). What fails a check is refused, never given a meaning
(spec/93_implementation_defined.md U2, U3; decision D18).
-/

namespace Sys2Proof

/-- The domain of `Extract` and `Deposit`: `1 <= w <= 32`, `0 <= off <= 31`, `off + w <= 32` (R27, R90). -/
def legalPos (off w : Nat) : Bool :=
  decide (1 ≤ w) && decide (w ≤ 32) && decide (off ≤ 31) && decide (off + w ≤ 32)

/-- A descriptor lies in a container of `n` words and in one of its words (R27). -/
def FieldDesc.legal (n : Nat) (d : FieldDesc) : Bool :=
  legalPos d.off d.w && decide (d.widx < n)

/-- The row owns its bits (R26). -/
def FieldRow.isLeaf (r : FieldRow) : Bool :=
  match r.kind with
  | .leaf => true
  | .composite _ => false

/-- Two descriptors share no bit: other words, or disjoint wire-bit ranges `[off, off+w)` (R27). -/
def FieldDesc.disjoint (a b : FieldDesc) : Bool :=
  decide (a.widx ≠ b.widx) || decide (a.off + a.w ≤ b.off) || decide (b.off + b.w ≤ a.off)

/-- No two of the descriptors share a bit (R27). -/
def pairwiseDisjoint : List FieldDesc → Bool
  | [] => true
  | d :: ds => ds.all d.disjoint && pairwiseDisjoint ds

/-- The listed rows are leaf fields of word `widx` that follow one another without a gap from wire bit
`off` and end at wire bit `stop` (exclusive) (R27, R112). -/
def chainCovers (fields : List FieldRow) (widx stop : Nat) : Nat → List Nat → Bool
  | off, [] => decide (off = stop)
  | off, m :: ms =>
    match fields[m]? with
    | none => false
    | some r =>
      r.isLeaf && decide (r.desc.widx = widx) && decide (r.desc.off = off)
        && chainCovers fields widx stop (off + r.desc.w) ms

/-- A composite row is exactly the union of its members, adjacent leaf fields of one word (R27, D3). -/
def compositeOk (fields : List FieldRow) (r : FieldRow) : Bool :=
  match r.kind with
  | .leaf => true
  | .composite ms =>
    !ms.isEmpty && chainCovers fields r.desc.widx (r.desc.off + r.desc.w) r.desc.off ms

/-- The leaf descriptors of a table, in table order. -/
def leafDescs (fields : List FieldRow) : List FieldDesc :=
  (fields.filter FieldRow.isLeaf).map FieldRow.desc

/-- Well-formedness of a layout (R27): every field legal, the leaf fields disjoint, every composite the
union of adjacent members. A table that fails is not a BFA configuration (U3). -/
def Layout.wf (l : Layout) : Bool :=
  l.fields.all (fun r => r.desc.legal l.numWords)
    && pairwiseDisjoint (leafDescs l.fields)
    && l.fields.all (compositeOk l.fields)

/-- In every word the widths of the leaf fields sum to 32; with disjointness, they cover the word exactly
(the last but one sentence of R27, which holds of the shipped tables and is not asked of every layout). -/
def Layout.covers (l : Layout) : Bool :=
  (List.range l.numWords).all fun i =>
    decide ((((leafDescs l.fields).filter (fun d => decide (d.widx = i))).map FieldDesc.w).sum = 32)

/-- A request as the ports of an instance can carry it: `req_data` is `8 * BYTES` bits wide (R60, R65). -/
def Request.wf (ht : HeaderType) (r : Request) : Bool := decide (r.data.length = ht.numBytes)

/-- An instruction that an instance of header type `ht` has: its field stands in the table of `ht` (R64),
and an LDB carries exactly `BYTES` bytes (R65, D18). Every 32-bit value is a legal operand of SET (R63). -/
def Instr.wf (ht : HeaderType) : Instr → Bool
  | .ldb data => decide (data.length = ht.numBytes)
  | i => match i.header with
    | none => true
    | some h => decide (h = ht)

end Sys2Proof
end

