-- ==== Sys2Proof/Decode.lean ====
section
/-!
DEFINITION. Decoding a presented command, total on any request, rejecting by name (spec/30_encoding.md
R61, R62, R64, R65, R67, R72), and after it the encoder, written from the same tables. The decode depends
only on the command byte and on `HT` (R72); an LDB and a SET then take their operand ports.
-/

namespace Sys2Proof

/-- Why a request is refused (R67; spec/93_implementation_defined.md U1, U2; decision D18). None of these
is an error of the BFA (R211): there is no step. Safe: the model stops where the spec gives no behaviour. -/
inductive DecodeError where
  /-- `op` is 000, 110 or 111 (R67). -/
  | reservedOp
  /-- CLR, LDB or STB with `fid` other than 00000 (R67). -/
  | nonzeroFid
  /-- GET or SET with a `fid` that has no row in the instance's table (R64, R67). -/
  | noSuchField
  /-- LDB with a buffer of other than `BYTES` bytes (R65, D18). -/
  | bufferSize
  deriving DecidableEq, Repr

/-- `op = req_cmd[7:5]` (R61). -/
def cmdOp (cmd : BitVec 8) : BitVec 3 := cmd.extractLsb' 5 3

/-- `fid = req_cmd[4:0]` (R61). -/
def cmdFid (cmd : BitVec 8) : BitVec 5 := cmd.extractLsb' 0 5

/-- GET by field identifier, IPV4 (R64, R120). -/
def decodeGetIpv4 : Nat → Except DecodeError Instr
  | 0 => .ok .getIpv4Version
  | 1 => .ok .getIpv4Ihl
  | 2 => .ok .getIpv4Tos
  | 3 => .ok .getIpv4Precedence
  | 4 => .ok .getIpv4Delay
  | 5 => .ok .getIpv4Throughput
  | 6 => .ok .getIpv4Reliability
  | 7 => .ok .getIpv4TosRsvd
  | 8 => .ok .getIpv4TotalLength
  | 9 => .ok .getIpv4Identification
  | 10 => .ok .getIpv4Flags
  | 11 => .ok .getIpv4FlagsRsvd
  | 12 => .ok .getIpv4Df
  | 13 => .ok .getIpv4Mf
  | 14 => .ok .getIpv4FragmentOffset
  | 15 => .ok .getIpv4Ttl
  | 16 => .ok .getIpv4Protocol
  | 17 => .ok .getIpv4HeaderChecksum
  | 18 => .ok .getIpv4SourceAddress
  | 19 => .ok .getIpv4DestinationAddress
  | 20 => .ok .getIpv4Options
  | 21 => .ok .getIpv4Padding
  | _ => .error .noSuchField

/-- SET by field identifier, IPV4 (R64, R120); the value is `req_value`, whole (R63). -/
def decodeSetIpv4 (v : Word) : Nat → Except DecodeError Instr
  | 0 => .ok (.setIpv4Version v)
  | 1 => .ok (.setIpv4Ihl v)
  | 2 => .ok (.setIpv4Tos v)
  | 3 => .ok (.setIpv4Precedence v)
  | 4 => .ok (.setIpv4Delay v)
  | 5 => .ok (.setIpv4Throughput v)
  | 6 => .ok (.setIpv4Reliability v)
  | 7 => .ok (.setIpv4TosRsvd v)
  | 8 => .ok (.setIpv4TotalLength v)
  | 9 => .ok (.setIpv4Identification v)
  | 10 => .ok (.setIpv4Flags v)
  | 11 => .ok (.setIpv4FlagsRsvd v)
  | 12 => .ok (.setIpv4Df v)
  | 13 => .ok (.setIpv4Mf v)
  | 14 => .ok (.setIpv4FragmentOffset v)
  | 15 => .ok (.setIpv4Ttl v)
  | 16 => .ok (.setIpv4Protocol v)
  | 17 => .ok (.setIpv4HeaderChecksum v)
  | 18 => .ok (.setIpv4SourceAddress v)
  | 19 => .ok (.setIpv4DestinationAddress v)
  | 20 => .ok (.setIpv4Options v)
  | 21 => .ok (.setIpv4Padding v)
  | _ => .error .noSuchField

/-- GET by field identifier, UDP (R64, R150). -/
def decodeGetUdp : Nat → Except DecodeError Instr
  | 0 => .ok .getUdpSourcePort
  | 1 => .ok .getUdpDestinationPort
  | 2 => .ok .getUdpLength
  | 3 => .ok .getUdpChecksum
  | _ => .error .noSuchField

/-- SET by field identifier, UDP (R64, R150); the value is `req_value`, whole (R63). -/
def decodeSetUdp (v : Word) : Nat → Except DecodeError Instr
  | 0 => .ok (.setUdpSourcePort v)
  | 1 => .ok (.setUdpDestinationPort v)
  | 2 => .ok (.setUdpLength v)
  | 3 => .ok (.setUdpChecksum v)
  | _ => .error .noSuchField

/-- GET by field identifier, TCP (R64, R160). -/
def decodeGetTcp : Nat → Except DecodeError Instr
  | 0 => .ok .getTcpSourcePort
  | 1 => .ok .getTcpDestinationPort
  | 2 => .ok .getTcpSequenceNumber
  | 3 => .ok .getTcpAcknowledgmentNumber
  | 4 => .ok .getTcpDataOffset
  | 5 => .ok .getTcpReserved
  | 6 => .ok .getTcpCwr
  | 7 => .ok .getTcpEce
  | 8 => .ok .getTcpUrg
  | 9 => .ok .getTcpAck
  | 10 => .ok .getTcpPsh
  | 11 => .ok .getTcpRst
  | 12 => .ok .getTcpSyn
  | 13 => .ok .getTcpFin
  | 14 => .ok .getTcpWindow
  | 15 => .ok .getTcpChecksum
  | 16 => .ok .getTcpUrgentPointer
  | _ => .error .noSuchField

/-- SET by field identifier, TCP (R64, R160); the value is `req_value`, whole (R63). -/
def decodeSetTcp (v : Word) : Nat → Except DecodeError Instr
  | 0 => .ok (.setTcpSourcePort v)
  | 1 => .ok (.setTcpDestinationPort v)
  | 2 => .ok (.setTcpSequenceNumber v)
  | 3 => .ok (.setTcpAcknowledgmentNumber v)
  | 4 => .ok (.setTcpDataOffset v)
  | 5 => .ok (.setTcpReserved v)
  | 6 => .ok (.setTcpCwr v)
  | 7 => .ok (.setTcpEce v)
  | 8 => .ok (.setTcpUrg v)
  | 9 => .ok (.setTcpAck v)
  | 10 => .ok (.setTcpPsh v)
  | 11 => .ok (.setTcpRst v)
  | 12 => .ok (.setTcpSyn v)
  | 13 => .ok (.setTcpFin v)
  | 14 => .ok (.setTcpWindow v)
  | 15 => .ok (.setTcpChecksum v)
  | 16 => .ok (.setTcpUrgentPointer v)
  | _ => .error .noSuchField

/-- GET in an instance of header type `ht` (R64). -/
def decodeGet : HeaderType → Nat → Except DecodeError Instr
  | .ipv4, fid => decodeGetIpv4 fid
  | .udp, fid => decodeGetUdp fid
  | .tcp, fid => decodeGetTcp fid

/-- SET in an instance of header type `ht` (R64). -/
def decodeSet : HeaderType → Word → Nat → Except DecodeError Instr
  | .ipv4, v, fid => decodeSetIpv4 v fid
  | .udp, v, fid => decodeSetUdp v fid
  | .tcp, v, fid => decodeSetTcp v fid

/-- The instruction a request presents to an instance of header type `ht` (R61, R62, R64), or why it is
refused (R67). -/
def decode (ht : HeaderType) (r : Request) : Except DecodeError Instr :=
  let fid := (cmdFid r.cmd).toNat
  match (cmdOp r.cmd).toNat with
  | 1 => if fid = 0 then .ok .clr else .error .nonzeroFid
  | 2 =>
    if fid = 0 then
      if r.data.length = ht.numBytes then .ok (.ldb r.data) else .error .bufferSize
    else .error .nonzeroFid
  | 3 => if fid = 0 then .ok .stb else .error .nonzeroFid
  | 4 => decodeGet ht fid
  | 5 => decodeSet ht r.value fid
  | _ => .error .reservedOp

/-- The operation code of an instruction (R62). -/
def Instr.op : Instr → BitVec 3
  | .clr => 0b001#3
  | .ldb _ => 0b010#3
  | .stb => 0b011#3
  | .getIpv4Version => 0b100#3
  | .setIpv4Version _ => 0b101#3
  | .getIpv4Ihl => 0b100#3
  | .setIpv4Ihl _ => 0b101#3
  | .getIpv4Tos => 0b100#3
  | .setIpv4Tos _ => 0b101#3
  | .getIpv4Precedence => 0b100#3
  | .setIpv4Precedence _ => 0b101#3
  | .getIpv4Delay => 0b100#3
  | .setIpv4Delay _ => 0b101#3
  | .getIpv4Throughput => 0b100#3
  | .setIpv4Throughput _ => 0b101#3
  | .getIpv4Reliability => 0b100#3
  | .setIpv4Reliability _ => 0b101#3
  | .getIpv4TosRsvd => 0b100#3
  | .setIpv4TosRsvd _ => 0b101#3
  | .getIpv4TotalLength => 0b100#3
  | .setIpv4TotalLength _ => 0b101#3
  | .getIpv4Identification => 0b100#3
  | .setIpv4Identification _ => 0b101#3
  | .getIpv4Flags => 0b100#3
  | .setIpv4Flags _ => 0b101#3
  | .getIpv4FlagsRsvd => 0b100#3
  | .setIpv4FlagsRsvd _ => 0b101#3
  | .getIpv4Df => 0b100#3
  | .setIpv4Df _ => 0b101#3
  | .getIpv4Mf => 0b100#3
  | .setIpv4Mf _ => 0b101#3
  | .getIpv4FragmentOffset => 0b100#3
  | .setIpv4FragmentOffset _ => 0b101#3
  | .getIpv4Ttl => 0b100#3
  | .setIpv4Ttl _ => 0b101#3
  | .getIpv4Protocol => 0b100#3
  | .setIpv4Protocol _ => 0b101#3
  | .getIpv4HeaderChecksum => 0b100#3
  | .setIpv4HeaderChecksum _ => 0b101#3
  | .getIpv4SourceAddress => 0b100#3
  | .setIpv4SourceAddress _ => 0b101#3
  | .getIpv4DestinationAddress => 0b100#3
  | .setIpv4DestinationAddress _ => 0b101#3
  | .getIpv4Options => 0b100#3
  | .setIpv4Options _ => 0b101#3
  | .getIpv4Padding => 0b100#3
  | .setIpv4Padding _ => 0b101#3
  | .getUdpSourcePort => 0b100#3
  | .setUdpSourcePort _ => 0b101#3
  | .getUdpDestinationPort => 0b100#3
  | .setUdpDestinationPort _ => 0b101#3
  | .getUdpLength => 0b100#3
  | .setUdpLength _ => 0b101#3
  | .getUdpChecksum => 0b100#3
  | .setUdpChecksum _ => 0b101#3
  | .getTcpSourcePort => 0b100#3
  | .setTcpSourcePort _ => 0b101#3
  | .getTcpDestinationPort => 0b100#3
  | .setTcpDestinationPort _ => 0b101#3
  | .getTcpSequenceNumber => 0b100#3
  | .setTcpSequenceNumber _ => 0b101#3
  | .getTcpAcknowledgmentNumber => 0b100#3
  | .setTcpAcknowledgmentNumber _ => 0b101#3
  | .getTcpDataOffset => 0b100#3
  | .setTcpDataOffset _ => 0b101#3
  | .getTcpReserved => 0b100#3
  | .setTcpReserved _ => 0b101#3
  | .getTcpCwr => 0b100#3
  | .setTcpCwr _ => 0b101#3
  | .getTcpEce => 0b100#3
  | .setTcpEce _ => 0b101#3
  | .getTcpUrg => 0b100#3
  | .setTcpUrg _ => 0b101#3
  | .getTcpAck => 0b100#3
  | .setTcpAck _ => 0b101#3
  | .getTcpPsh => 0b100#3
  | .setTcpPsh _ => 0b101#3
  | .getTcpRst => 0b100#3
  | .setTcpRst _ => 0b101#3
  | .getTcpSyn => 0b100#3
  | .setTcpSyn _ => 0b101#3
  | .getTcpFin => 0b100#3
  | .setTcpFin _ => 0b101#3
  | .getTcpWindow => 0b100#3
  | .setTcpWindow _ => 0b101#3
  | .getTcpChecksum => 0b100#3
  | .setTcpChecksum _ => 0b101#3
  | .getTcpUrgentPointer => 0b100#3
  | .setTcpUrgentPointer _ => 0b101#3

/-- The field identifier of an instruction (R64); 00000 for CLR, LDB and STB (R61). -/
def Instr.fid : Instr → BitVec 5
  | .clr => 0#5
  | .ldb _ => 0#5
  | .stb => 0#5
  | .getIpv4Version => 0#5
  | .setIpv4Version _ => 0#5
  | .getIpv4Ihl => 1#5
  | .setIpv4Ihl _ => 1#5
  | .getIpv4Tos => 2#5
  | .setIpv4Tos _ => 2#5
  | .getIpv4Precedence => 3#5
  | .setIpv4Precedence _ => 3#5
  | .getIpv4Delay => 4#5
  | .setIpv4Delay _ => 4#5
  | .getIpv4Throughput => 5#5
  | .setIpv4Throughput _ => 5#5
  | .getIpv4Reliability => 6#5
  | .setIpv4Reliability _ => 6#5
  | .getIpv4TosRsvd => 7#5
  | .setIpv4TosRsvd _ => 7#5
  | .getIpv4TotalLength => 8#5
  | .setIpv4TotalLength _ => 8#5
  | .getIpv4Identification => 9#5
  | .setIpv4Identification _ => 9#5
  | .getIpv4Flags => 10#5
  | .setIpv4Flags _ => 10#5
  | .getIpv4FlagsRsvd => 11#5
  | .setIpv4FlagsRsvd _ => 11#5
  | .getIpv4Df => 12#5
  | .setIpv4Df _ => 12#5
  | .getIpv4Mf => 13#5
  | .setIpv4Mf _ => 13#5
  | .getIpv4FragmentOffset => 14#5
  | .setIpv4FragmentOffset _ => 14#5
  | .getIpv4Ttl => 15#5
  | .setIpv4Ttl _ => 15#5
  | .getIpv4Protocol => 16#5
  | .setIpv4Protocol _ => 16#5
  | .getIpv4HeaderChecksum => 17#5
  | .setIpv4HeaderChecksum _ => 17#5
  | .getIpv4SourceAddress => 18#5
  | .setIpv4SourceAddress _ => 18#5
  | .getIpv4DestinationAddress => 19#5
  | .setIpv4DestinationAddress _ => 19#5
  | .getIpv4Options => 20#5
  | .setIpv4Options _ => 20#5
  | .getIpv4Padding => 21#5
  | .setIpv4Padding _ => 21#5
  | .getUdpSourcePort => 0#5
  | .setUdpSourcePort _ => 0#5
  | .getUdpDestinationPort => 1#5
  | .setUdpDestinationPort _ => 1#5
  | .getUdpLength => 2#5
  | .setUdpLength _ => 2#5
  | .getUdpChecksum => 3#5
  | .setUdpChecksum _ => 3#5
  | .getTcpSourcePort => 0#5
  | .setTcpSourcePort _ => 0#5
  | .getTcpDestinationPort => 1#5
  | .setTcpDestinationPort _ => 1#5
  | .getTcpSequenceNumber => 2#5
  | .setTcpSequenceNumber _ => 2#5
  | .getTcpAcknowledgmentNumber => 3#5
  | .setTcpAcknowledgmentNumber _ => 3#5
  | .getTcpDataOffset => 4#5
  | .setTcpDataOffset _ => 4#5
  | .getTcpReserved => 5#5
  | .setTcpReserved _ => 5#5
  | .getTcpCwr => 6#5
  | .setTcpCwr _ => 6#5
  | .getTcpEce => 7#5
  | .setTcpEce _ => 7#5
  | .getTcpUrg => 8#5
  | .setTcpUrg _ => 8#5
  | .getTcpAck => 9#5
  | .setTcpAck _ => 9#5
  | .getTcpPsh => 10#5
  | .setTcpPsh _ => 10#5
  | .getTcpRst => 11#5
  | .setTcpRst _ => 11#5
  | .getTcpSyn => 12#5
  | .setTcpSyn _ => 12#5
  | .getTcpFin => 13#5
  | .setTcpFin _ => 13#5
  | .getTcpWindow => 14#5
  | .setTcpWindow _ => 14#5
  | .getTcpChecksum => 15#5
  | .setTcpChecksum _ => 15#5
  | .getTcpUrgentPointer => 16#5
  | .setTcpUrgentPointer _ => 16#5

/-- The value operand of an instruction: `req_value` of a SET (R63); every other command ignores the port,
and the encoder drives it 0. -/
def Instr.valueOperand : Instr → Word
  | .clr => 0
  | .ldb _ => 0
  | .stb => 0
  | .getIpv4Version => 0
  | .setIpv4Version v => v
  | .getIpv4Ihl => 0
  | .setIpv4Ihl v => v
  | .getIpv4Tos => 0
  | .setIpv4Tos v => v
  | .getIpv4Precedence => 0
  | .setIpv4Precedence v => v
  | .getIpv4Delay => 0
  | .setIpv4Delay v => v
  | .getIpv4Throughput => 0
  | .setIpv4Throughput v => v
  | .getIpv4Reliability => 0
  | .setIpv4Reliability v => v
  | .getIpv4TosRsvd => 0
  | .setIpv4TosRsvd v => v
  | .getIpv4TotalLength => 0
  | .setIpv4TotalLength v => v
  | .getIpv4Identification => 0
  | .setIpv4Identification v => v
  | .getIpv4Flags => 0
  | .setIpv4Flags v => v
  | .getIpv4FlagsRsvd => 0
  | .setIpv4FlagsRsvd v => v
  | .getIpv4Df => 0
  | .setIpv4Df v => v
  | .getIpv4Mf => 0
  | .setIpv4Mf v => v
  | .getIpv4FragmentOffset => 0
  | .setIpv4FragmentOffset v => v
  | .getIpv4Ttl => 0
  | .setIpv4Ttl v => v
  | .getIpv4Protocol => 0
  | .setIpv4Protocol v => v
  | .getIpv4HeaderChecksum => 0
  | .setIpv4HeaderChecksum v => v
  | .getIpv4SourceAddress => 0
  | .setIpv4SourceAddress v => v
  | .getIpv4DestinationAddress => 0
  | .setIpv4DestinationAddress v => v
  | .getIpv4Options => 0
  | .setIpv4Options v => v
  | .getIpv4Padding => 0
  | .setIpv4Padding v => v
  | .getUdpSourcePort => 0
  | .setUdpSourcePort v => v
  | .getUdpDestinationPort => 0
  | .setUdpDestinationPort v => v
  | .getUdpLength => 0
  | .setUdpLength v => v
  | .getUdpChecksum => 0
  | .setUdpChecksum v => v
  | .getTcpSourcePort => 0
  | .setTcpSourcePort v => v
  | .getTcpDestinationPort => 0
  | .setTcpDestinationPort v => v
  | .getTcpSequenceNumber => 0
  | .setTcpSequenceNumber v => v
  | .getTcpAcknowledgmentNumber => 0
  | .setTcpAcknowledgmentNumber v => v
  | .getTcpDataOffset => 0
  | .setTcpDataOffset v => v
  | .getTcpReserved => 0
  | .setTcpReserved v => v
  | .getTcpCwr => 0
  | .setTcpCwr v => v
  | .getTcpEce => 0
  | .setTcpEce v => v
  | .getTcpUrg => 0
  | .setTcpUrg v => v
  | .getTcpAck => 0
  | .setTcpAck v => v
  | .getTcpPsh => 0
  | .setTcpPsh v => v
  | .getTcpRst => 0
  | .setTcpRst v => v
  | .getTcpSyn => 0
  | .setTcpSyn v => v
  | .getTcpFin => 0
  | .setTcpFin v => v
  | .getTcpWindow => 0
  | .setTcpWindow v => v
  | .getTcpChecksum => 0
  | .setTcpChecksum v => v
  | .getTcpUrgentPointer => 0
  | .setTcpUrgentPointer v => v

/-- The buffer operand of an instruction: `req_data` of an LDB (R65); every other command ignores the port,
and the encoder drives it 0 over its whole width. -/
def Instr.dataOperand (ht : HeaderType) : Instr → List Byte
  | .ldb data => data
  | _ => List.replicate ht.numBytes 0

/-- The request that presents an instruction to an instance of header type `ht` (R61 to R65). -/
def encode (ht : HeaderType) (i : Instr) : Request where
  cmd := i.op ++ i.fid
  value := i.valueOperand
  data := i.dataOperand ht

/-- The request whose command byte is the low 8 bits of a table word and whose operand ports are 0: the
opcode table gives every row 8 bits, `req_cmd[7:0]`, and no bit to an operand (R61, R68). -/
def tableRequest (ht : HeaderType) (w : Nat) : Request where
  cmd := BitVec.ofNat 8 w
  value := 0
  data := List.replicate ht.numBytes 0

/-- The instruction the decoder reads from a table word in the instance that `State.reset` describes
(log entry 1: the three instances share their command bytes, so the word alone does not tell which field
of which header is meant). A word with bits above the command byte is no table word. -/
def decodeTableWord (_nbits w : Nat) : Option Instr :=
  if w < 256 then (decode Config.resetHeaderType (tableRequest Config.resetHeaderType w)).toOption else none

end Sys2Proof
end

