-- ==== Sys2Proof/Machine/State.lean ====
section
/-!
DEFINITION. The state of one BFA instance as plain data, the reasons a step can stop, and the state right
after reset (spec/10_state.md R20 to R33; spec/00_scope.md R13 to R15; spec/70_reset_and_hazards.md R220).
The architectural state is a `Container`: exactly `N` storage words and no other component (R20). A step of
the host's interface goes from one state to the next and takes no input and gives no output of its own, so
beside the container `State` holds the two sides of the instance's ports as data: the cycles the request port
will still see, and the response of the last cycle. Neither is state of the BFA (R24, R29; log entries 2, 3).
-/

namespace Sys2Proof.Machine

/-- The architectural state of one instance (R20): the `N` storage words `W[0]` to `W[N-1]` of 32 bits, 6 for
IPV4, 2 for UDP, 5 for TCP (R8), and no other component. Which `HT` an instance has is which of the three
state types it has: fixed when it is built, and no value in it (R3, R25). -/
inductive Container where
  | ipv4 (w0 w1 w2 w3 w4 w5 : Word)
  | udp (w0 w1 : Word)
  | tcp (w0 w1 w2 w3 w4 : Word)
  deriving DecidableEq, Repr

/-- The header type `HT` whose state type this is (R3, R8). -/
def Container.ht : Container → HeaderType
  | .ipv4 .. => .ipv4
  | .udp .. => .udp
  | .tcp .. => .tcp

/-- The zero-initialised container: every storage word is 0 (R31). -/
def Container.zero : HeaderType → Container
  | .ipv4 => .ipv4 0 0 0 0 0 0
  | .udp => .udp 0 0
  | .tcp => .tcp 0 0 0 0 0

/-- The one address space of the BFA, its backing buffer (R40, R48), seen as the list of its words: `W[i]` is
entry `i` (R20, R41). The words are the only copy of the bytes (R40), so equal buffers are equal lists (R30;
log entry 5). -/
abbrev Memory := List Word

/-- The one canonical form: exactly `N` words (R20, "no dynamic growth"). The words of a container always have
it (`Container.words_length`). -/
abbrev Memory.wf (ht : HeaderType) (m : Memory) : Prop := m.length = ht.numWords

/-- The response to one command (R66, R100): `err` is `rsp_err`; `value` is `rsp_value`, present for GET
only; `data` is `rsp_data`, present for STB only. An output that a command does not define is absent
(decision D21, log entry 10). -/
structure Response where
  err : Bool
  value : Option Word
  data : Option (List Byte)
  deriving DecidableEq, Repr

/-- The inputs of one clock cycle (R60): `rst`, `req_valid` and the command ports. -/
structure PortCycle where
  rst : Bool
  valid : Bool
  req : Request
  deriving DecidableEq, Repr

/-- One BFA instance with what its ports will bring and what they just showed. -/
structure State where
  /-- The architectural state, whole (R20). -/
  container : Container
  /-- The request-port cycles still to come, the next one first; past its end the port is idle. The
  model's own input (R13, R60; log entry 2). -/
  port : List PortCycle
  /-- The response outputs of the cycle just performed, `none` when there was no response (R66, R72,
  R221). The model's own output; no step reads it (R24, R29; log entry 3). -/
  rsp : Option Response
  deriving DecidableEq, Repr

/-- The header type of the instance (R3). -/
def State.ht (s : State) : HeaderType := s.container.ht

/-- Why the machine stops with a fault: there is no such reason, so the type is empty and nothing raises one.
The one fault of the BFA, `OutOfRange`, is a response after which it goes on with its words unchanged (R15,
R200, R206, R207; log entry 7), and "no other error kinds exist" (R15, R211). Everything else that has no
meaning is a `Refusal` (R15). Safe. -/
inductive Fault where
  deriving DecidableEq, Repr

/-- Why an input has no step. The spec itself calls these refusals (R15, R27, R67, R90, R211). -/
inductive Refusal where
  /-- An instruction without a meaning in this model, by its mnemonic. Raised by no arm of `exec`: every
  instruction has its meaning. Safe. -/
  | notModelled (mnemonic : String)
  /-- A reserved request: raised by the step when the decoder rejects (R67, U1, U2). Safe. -/
  | reserved (why : DecodeError)
  /-- An instruction naming a field of a header type other than the instance's: raised by the field
  operations; no request decodes to it (R64, U2; log entry 8). Safe. -/
  | otherInstance
  /-- An LDB whose buffer is not `BYTES` bytes long: raised by the load operation; no request decodes to it
  (R65, D18; log entry 8). Safe. -/
  | bufferSize
  /-- BFU operands outside the descriptor domain: raised by the field operations; no field of the three
  tables raises it (R90, U3). Safe. -/
  | outsideDomain
  /-- A descriptor whose word index `widx` is not below `N`: raised by the field operations; no field of the
  three tables raises it (R15, R27, U3; log entry 6). Safe. -/
  | noStorageWord (widx : Nat)
  deriving DecidableEq, Repr

/-- An instance of header type `ht` right after reset: every storage word 0 (R31, R220), no response
pending (R32, table), nothing presented yet. -/
def State.resetOf (ht : HeaderType) : State where
  container := Container.zero ht
  port := []
  rsp := none

/-- The machine right after reset (R31). Which of the three instances it is: log entry 1. -/
def State.reset : State := State.resetOf Config.resetHeaderType

/-- Replace all storage words. -/
def State.setContainer (s : State) (c : Container) : State := { s with container := c }

/-- Drive the response outputs of this cycle. -/
def State.respond (s : State) (r : Response) : State := { s with rsp := some r }

/-- Drive no response in this cycle. -/
def State.silent (s : State) : State := { s with rsp := none }

/-- Replace the request-port cycles still to come. -/
def State.setPort (s : State) (p : List PortCycle) : State := { s with port := p }

end Sys2Proof.Machine
end

