-- ==== Sys2Proof/Machine/Bfu.lean ====
section
/-!
DEFINITION. The bit-field unit: `Mask`, `Shamt`, `Extract`, `Deposit` over one 32-bit word, their domain,
and the BFU's own ports (spec/40_bitfield_unit.md R80 to R91; spec/30_encoding.md R71). Pure functions: the
BFU has no state.
-/

namespace Sys2Proof.Machine

/-- Wire bit `k` of a word: bit 0 is the most significant, so it is `x[31-k]` (R9). -/
def wireBit (x : Word) (k : Nat) : Bool := x.getLsbD (31 - k)

/-- `Mask(w) = 2^w - 1`, by the closed form that also holds at `w = 32` (R80, D19). Read only for
`1 <= w <= 32`. -/
def mask (w : Nat) : Word := BitVec.ofNat 32 (2 ^ w - 1)

/-- `Shamt(off, w) = 32 - w - off` (R81); 0 to 31 in the domain (R82). -/
def shamt (off w : Nat) : Nat := 32 - w - off

/-- The field's bits in place: `Mask(w) << Shamt(off, w)` (R84). -/
def shiftedMask (off w : Nat) : Word := mask w <<< shamt off w

/-- The formula of `Extract` (R83). -/
def extractBits (word : Word) (off w : Nat) : Word := (word >>> shamt off w) &&& mask w

/-- `Extract(word, off, w)` (R83); `none` outside the domain, where it is not defined (R90). -/
def extract (word : Word) (off w : Nat) : Option Word :=
  if legalPos off w then some (extractBits word off w) else none

/-- What `Deposit` answers inside its domain (R84). -/
inductive Deposited where
  /-- The new word; `oor_o = 0`. -/
  | ok (word : Word)
  /-- The value does not fit; `oor_o = 1`, no word. -/
  | outOfRange
  deriving DecidableEq, Repr

/-- The test of the one error: `value > Mask(w)`, unsigned, on all 32 bits of the value (R84, R200). -/
def exceeds (w : Nat) (value : Word) : Bool := decide (mask w < value)

/-- The formula of `Deposit` for a value that fits (R84). -/
def depositBits (word : Word) (off w : Nat) (value : Word) : Word :=
  (word &&& ~~~(shiftedMask off w)) ||| (value <<< shamt off w)

/-- `Deposit(word, off, w, value)` (R84); `none` outside the domain, where it is not defined (R90). -/
def deposit (word : Word) (off w : Nat) (value : Word) : Option Deposited :=
  if legalPos off w then
    if exceeds w value then some .outOfRange else some (.ok (depositBits word off w value))
  else none

/-- The BFU's output ports (R71). `wordO` is absent when `oorO` is 1, for then it is not defined (R84). -/
structure BfuOut where
  valueO : Word
  wordO : Option Word
  oorO : Bool
  deriving DecidableEq, Repr

/-- The BFU taken alone, from its input ports to its output ports, both results always computed (R71);
`none` outside the domain (R90). -/
def bfu (wordI : Word) (offI : BitVec 5) (widthI : BitVec 6) (valueI : Word) : Option BfuOut :=
  match extract wordI offI.toNat widthI.toNat, deposit wordI offI.toNat widthI.toNat valueI with
  | some x, some (.ok word) => some { valueO := x, wordO := some word, oorO := false }
  | some x, some .outOfRange => some { valueO := x, wordO := none, oorO := true }
  | _, _ => none

/-- `Extract` over a value of `W` bits: `(x >> (W - w - o)) & Mask(w)`, the formula that reads a nested
field out of a field (R88 (d)). -/
def extractIn (W : Nat) (x : Word) (o w : Nat) : Word := (x >>> (W - w - o)) &&& mask w

end Sys2Proof.Machine
end

