-- ==== Sys2Proof/Machine/Flags.lean ====
section
/-!
DEFINITION. The BFA has no status flags, condition codes or predicates, and no command writes one
(spec/10_state.md R24; "Flags written: none" in every rule of a command). What stands in their place is the
response: its error bit and the outputs a command defines (spec/30_encoding.md R66; spec/60_exceptions.md
R201), computed here once.
-/

namespace Sys2Proof.Machine

/-- The response of CLR, LDB and a successful SET: `rsp_err = 0`, no other output (R66, R101, R102, R105). -/
def okResponse : Response := { err := false, value := none, data := none }

/-- The response of GET: `rsp_err = 0` and the field value in `rsp_value` (R66, R104). -/
def valueResponse (v : Word) : Response := { err := false, value := some v, data := none }

/-- The response of STB: `rsp_err = 0` and the buffer in `rsp_data` (R66, R103). -/
def dataResponse (b : List Byte) : Response := { err := false, value := none, data := some b }

/-- The response of a failed SET: `rsp_err = 1`, which means `OutOfRange` and nothing else (R201, R205). -/
def errResponse : Response := { err := true, value := none, data := none }

end Sys2Proof.Machine
end

