-- ==== Sys2Proof/Machine/Operands.lean ====
section
/-!
DEFINITION. The operand forms of the commands: the field operand, a row of the instance's constant
descriptor table selected by `fid` (spec/10_state.md R26, R28; spec/30_encoding.md R64; the tables of
spec/42_ipv4_fields.md R120, spec/43_udp_fields.md R150, spec/44_tcp_fields.md R160), and the buffer
operand with its big-endian byte order (spec/30_encoding.md R65; spec/20_memory.md R41). The value operand
of SET is `req_value` itself, whole: no extension, truncation, scaling or shift (R63).
-/

namespace Sys2Proof.Machine

/-- VERSION (R121). -/
def Ipv4.version : FieldDesc := ⟨0, 0, 4⟩

/-- IHL (R122). -/
def Ipv4.ihl : FieldDesc := ⟨0, 4, 4⟩

/-- TOS (R123). -/
def Ipv4.tos : FieldDesc := ⟨0, 8, 8⟩

/-- PRECEDENCE (R124). -/
def Ipv4.precedence : FieldDesc := ⟨0, 8, 3⟩

/-- DELAY (R125). -/
def Ipv4.delay : FieldDesc := ⟨0, 11, 1⟩

/-- THROUGHPUT (R126). -/
def Ipv4.throughput : FieldDesc := ⟨0, 12, 1⟩

/-- RELIABILITY (R127). -/
def Ipv4.reliability : FieldDesc := ⟨0, 13, 1⟩

/-- TOS_RSVD (R128). -/
def Ipv4.tosRsvd : FieldDesc := ⟨0, 14, 2⟩

/-- TOTAL_LENGTH (R129). -/
def Ipv4.totalLength : FieldDesc := ⟨0, 16, 16⟩

/-- IDENTIFICATION (R130). -/
def Ipv4.identification : FieldDesc := ⟨1, 0, 16⟩

/-- FLAGS (R131). -/
def Ipv4.flags : FieldDesc := ⟨1, 16, 3⟩

/-- FLAGS_RSVD (R132). -/
def Ipv4.flagsRsvd : FieldDesc := ⟨1, 16, 1⟩

/-- DF (R133). -/
def Ipv4.df : FieldDesc := ⟨1, 17, 1⟩

/-- MF (R134). -/
def Ipv4.mf : FieldDesc := ⟨1, 18, 1⟩

/-- FRAGMENT_OFFSET (R135). -/
def Ipv4.fragmentOffset : FieldDesc := ⟨1, 19, 13⟩

/-- TTL (R136). -/
def Ipv4.ttl : FieldDesc := ⟨2, 0, 8⟩

/-- PROTOCOL (R137). -/
def Ipv4.protocol : FieldDesc := ⟨2, 8, 8⟩

/-- HEADER_CHECKSUM (R138). -/
def Ipv4.headerChecksum : FieldDesc := ⟨2, 16, 16⟩

/-- SOURCE_ADDRESS (R139). -/
def Ipv4.sourceAddress : FieldDesc := ⟨3, 0, 32⟩

/-- DESTINATION_ADDRESS (R140). -/
def Ipv4.destinationAddress : FieldDesc := ⟨4, 0, 32⟩

/-- OPTIONS (R141). -/
def Ipv4.options : FieldDesc := ⟨5, 0, 24⟩

/-- PADDING (R142). -/
def Ipv4.padding : FieldDesc := ⟨5, 24, 8⟩

/-- SOURCE_PORT (R151). -/
def Udp.sourcePort : FieldDesc := ⟨0, 0, 16⟩

/-- DESTINATION_PORT (R152). -/
def Udp.destinationPort : FieldDesc := ⟨0, 16, 16⟩

/-- LENGTH (R153). -/
def Udp.length : FieldDesc := ⟨1, 0, 16⟩

/-- CHECKSUM (R154). -/
def Udp.checksum : FieldDesc := ⟨1, 16, 16⟩

/-- SOURCE_PORT (R161). -/
def Tcp.sourcePort : FieldDesc := ⟨0, 0, 16⟩

/-- DESTINATION_PORT (R162). -/
def Tcp.destinationPort : FieldDesc := ⟨0, 16, 16⟩

/-- SEQUENCE_NUMBER (R163). -/
def Tcp.sequenceNumber : FieldDesc := ⟨1, 0, 32⟩

/-- ACKNOWLEDGMENT_NUMBER (R164). -/
def Tcp.acknowledgmentNumber : FieldDesc := ⟨2, 0, 32⟩

/-- DATA_OFFSET (R165). -/
def Tcp.dataOffset : FieldDesc := ⟨3, 0, 4⟩

/-- RESERVED (R166). -/
def Tcp.reserved : FieldDesc := ⟨3, 4, 4⟩

/-- CWR (R167). -/
def Tcp.cwr : FieldDesc := ⟨3, 8, 1⟩

/-- ECE (R168). -/
def Tcp.ece : FieldDesc := ⟨3, 9, 1⟩

/-- URG (R169). -/
def Tcp.urg : FieldDesc := ⟨3, 10, 1⟩

/-- ACK (R170). -/
def Tcp.ack : FieldDesc := ⟨3, 11, 1⟩

/-- PSH (R171). -/
def Tcp.psh : FieldDesc := ⟨3, 12, 1⟩

/-- RST (R172). -/
def Tcp.rst : FieldDesc := ⟨3, 13, 1⟩

/-- SYN (R173). -/
def Tcp.syn : FieldDesc := ⟨3, 14, 1⟩

/-- FIN (R174). -/
def Tcp.fin : FieldDesc := ⟨3, 15, 1⟩

/-- WINDOW (R175). -/
def Tcp.window : FieldDesc := ⟨3, 16, 16⟩

/-- CHECKSUM (R176). -/
def Tcp.checksum : FieldDesc := ⟨4, 0, 16⟩

/-- URGENT_POINTER (R177). -/
def Tcp.urgentPointer : FieldDesc := ⟨4, 16, 16⟩

/-- The descriptor table of IPV4, in `fid` order (R120, R64). -/
def ipv4Fields : List FieldRow := [
  ⟨"VERSION", .leaf, Ipv4.version⟩,
  ⟨"IHL", .leaf, Ipv4.ihl⟩,
  ⟨"TOS", .composite [3, 4, 5, 6, 7], Ipv4.tos⟩,
  ⟨"PRECEDENCE", .leaf, Ipv4.precedence⟩,
  ⟨"DELAY", .leaf, Ipv4.delay⟩,
  ⟨"THROUGHPUT", .leaf, Ipv4.throughput⟩,
  ⟨"RELIABILITY", .leaf, Ipv4.reliability⟩,
  ⟨"TOS_RSVD", .leaf, Ipv4.tosRsvd⟩,
  ⟨"TOTAL_LENGTH", .leaf, Ipv4.totalLength⟩,
  ⟨"IDENTIFICATION", .leaf, Ipv4.identification⟩,
  ⟨"FLAGS", .composite [11, 12, 13], Ipv4.flags⟩,
  ⟨"FLAGS_RSVD", .leaf, Ipv4.flagsRsvd⟩,
  ⟨"DF", .leaf, Ipv4.df⟩,
  ⟨"MF", .leaf, Ipv4.mf⟩,
  ⟨"FRAGMENT_OFFSET", .leaf, Ipv4.fragmentOffset⟩,
  ⟨"TTL", .leaf, Ipv4.ttl⟩,
  ⟨"PROTOCOL", .leaf, Ipv4.protocol⟩,
  ⟨"HEADER_CHECKSUM", .leaf, Ipv4.headerChecksum⟩,
  ⟨"SOURCE_ADDRESS", .leaf, Ipv4.sourceAddress⟩,
  ⟨"DESTINATION_ADDRESS", .leaf, Ipv4.destinationAddress⟩,
  ⟨"OPTIONS", .leaf, Ipv4.options⟩,
  ⟨"PADDING", .leaf, Ipv4.padding⟩]

/-- The descriptor table of UDP, in `fid` order (R150, R64). -/
def udpFields : List FieldRow := [
  ⟨"SOURCE_PORT", .leaf, Udp.sourcePort⟩,
  ⟨"DESTINATION_PORT", .leaf, Udp.destinationPort⟩,
  ⟨"LENGTH", .leaf, Udp.length⟩,
  ⟨"CHECKSUM", .leaf, Udp.checksum⟩]

/-- The descriptor table of TCP, in `fid` order (R160, R64). -/
def tcpFields : List FieldRow := [
  ⟨"SOURCE_PORT", .leaf, Tcp.sourcePort⟩,
  ⟨"DESTINATION_PORT", .leaf, Tcp.destinationPort⟩,
  ⟨"SEQUENCE_NUMBER", .leaf, Tcp.sequenceNumber⟩,
  ⟨"ACKNOWLEDGMENT_NUMBER", .leaf, Tcp.acknowledgmentNumber⟩,
  ⟨"DATA_OFFSET", .leaf, Tcp.dataOffset⟩,
  ⟨"RESERVED", .leaf, Tcp.reserved⟩,
  ⟨"CWR", .leaf, Tcp.cwr⟩,
  ⟨"ECE", .leaf, Tcp.ece⟩,
  ⟨"URG", .leaf, Tcp.urg⟩,
  ⟨"ACK", .leaf, Tcp.ack⟩,
  ⟨"PSH", .leaf, Tcp.psh⟩,
  ⟨"RST", .leaf, Tcp.rst⟩,
  ⟨"SYN", .leaf, Tcp.syn⟩,
  ⟨"FIN", .leaf, Tcp.fin⟩,
  ⟨"WINDOW", .leaf, Tcp.window⟩,
  ⟨"CHECKSUM", .leaf, Tcp.checksum⟩,
  ⟨"URGENT_POINTER", .leaf, Tcp.urgentPointer⟩]

/-- `FIELDS(HT)` (R8). -/
def fields : HeaderType → List FieldRow
  | .ipv4 => ipv4Fields
  | .udp => udpFields
  | .tcp => tcpFields

/-- The layout of an instance (R8). -/
def layout (ht : HeaderType) : Layout := { numWords := ht.numWords, fields := fields ht }

/-- `Desc(fid)`; `none` where the table has no row (R26, R64). -/
def desc (ht : HeaderType) (fid : Nat) : Option FieldDesc := (fields ht)[fid]?.map FieldRow.desc

/-- Sequential packing (R28): the descriptors of leaf fields of the given widths, packed in order from stream
bit `pos` on with no gaps. -/
def pack : Nat → List Nat → List FieldDesc
  | _, [] => []
  | pos, w :: ws => ⟨pos / 32, pos % 32, w⟩ :: pack (pos + w) ws

/-- Byte `k` of a word, `k` in 0 to 3, 0 the most significant (R41): `(word >> (24 - 8*k)) & 0xFF`. -/
def byteOf (word : Word) (k : Nat) : Byte := ((word >>> (24 - 8 * k)) &&& 0xFF#32).setWidth 8

/-- The four bytes of a word in buffer order (R41). -/
def bytesOfWord (word : Word) : List Byte := [byteOf word 0, byteOf word 1, byteOf word 2, byteOf word 3]

/-- The word `b0 ‖ b1 ‖ b2 ‖ b3` (R41, R102). -/
def wordOfBytes (b0 b1 b2 b3 : Byte) : Word := b0 ++ b1 ++ b2 ++ b3

/-- A buffer as words: each four bytes make one word, the first most significant (R41, R102). -/
def wordsOfBytes : List Byte → List Word
  | b0 :: b1 :: b2 :: b3 :: rest => wordOfBytes b0 b1 b2 b3 :: wordsOfBytes rest
  | _ => []

/-- Words as a buffer (R41, R103). -/
def bytesOfWords : List Word → List Byte
  | [] => []
  | w :: ws => bytesOfWord w ++ bytesOfWords ws

/-- The number that a bus carrying the bytes shows, byte 0 in the most significant position (R65); also
`b[0] ‖ b[1] ‖ …` as an unsigned integer (R43). -/
def bigEndian : List Byte → Nat
  | [] => 0
  | b :: bs => b.toNat * 2 ^ (8 * bs.length) + bigEndian bs

/-- `W[0] ‖ W[1] ‖ …` as an unsigned integer (R65). -/
def wordBus : List Word → Nat
  | [] => 0
  | w :: ws => w.toNat * 2 ^ (32 * ws.length) + wordBus ws

/-- The `n` bytes of an unsigned integer of `8n` bits, most significant first (R44, R65). -/
def bytesOfNat : Nat → Nat → List Byte
  | 0, _ => []
  | n + 1, v => BitVec.ofNat 8 (v / 2 ^ (8 * n)) :: bytesOfNat n v

end Sys2Proof.Machine
end

