-- ==== Sys2Proof/Machine/Ops.lean ====
section
/-!
DEFINITION. The named operations over the storage words and the backing buffer (spec/20_memory.md R41 to
R47), the report of `OutOfRange` (spec/60_exceptions.md R200 to R208), the two cycles without a command
(spec/70_reset_and_hazards.md R220, R221; spec/30_encoding.md R72), and the generic commands CLR, LDB, STB,
GET and SET (spec/41_container_ops.md R101 to R105) that every instruction is an instance of.
-/

namespace Sys2Proof.Machine

/-- What a step of this machine answers. -/
abbrev Result := Host.Outcome State Fault Refusal

/-- The storage words as a list (R20). -/
def Container.words : Container → Memory
  | .ipv4 w0 w1 w2 w3 w4 w5 => [w0, w1, w2, w3, w4, w5]
  | .udp w0 w1 => [w0, w1]
  | .tcp w0 w1 w2 w3 w4 => [w0, w1, w2, w3, w4]

/-- The container of header type `ht` with the first `N` of the given words; used with exactly `N`. -/
def Container.ofWords (ht : HeaderType) (m : Memory) : Container :=
  match ht with
  | .ipv4 => .ipv4 (m.getD 0 0) (m.getD 1 0) (m.getD 2 0) (m.getD 3 0) (m.getD 4 0) (m.getD 5 0)
  | .udp => .udp (m.getD 0 0) (m.getD 1 0)
  | .tcp => .tcp (m.getD 0 0) (m.getD 1 0) (m.getD 2 0) (m.getD 3 0) (m.getD 4 0)

/-- The container with word `i` replaced (R21); the same container where there is no such word. -/
def Container.setWord (c : Container) (i : Nat) (v : Word) : Container :=
  Container.ofWords c.ht (c.words.set i v)

/-- `W`, the storage words of the instance: `s.W[i]?` is `W[i]` (R20). -/
def State.W (s : State) : Memory := s.container.words

/-- `W[i]` (R11, R21); `none` where the container has no such word (R20, R48). -/
def State.readWord (s : State) (i : Nat) : Option Word := s.W[i]?

/-- `W[i] <- v` (R11, R21): the one word, nothing else. -/
def State.writeWord (s : State) (i : Nat) (v : Word) : State :=
  s.setContainer (s.container.setWord i v)

/-- All words replaced by the `N` given ones (R21). -/
def State.setWords (s : State) (m : Memory) : State := s.setContainer (Container.ofWords s.ht m)

/-- `Byte(a)` (R41): byte `a mod 4` of word `a div 4`; `none` past the buffer (R48). -/
def Memory.byteAt (m : Memory) (a : Nat) : Option Byte := m[a / 4]?.map (byteOf · (a % 4))

/-- `Byte(a) <- b`: the 8-bit slice of the one word that holds it (R44); nothing past the buffer. -/
def Memory.setByte (m : Memory) (a : Nat) (b : Byte) : Memory :=
  match m[a / 4]? with
  | none => m
  | some w => m.set (a / 4) (depositBits w (8 * (a % 4)) 8 (b.setWidth 32))

/-- The `n` bytes from address `a` on; `none` if one of them is past the buffer. -/
def Memory.readBytes (m : Memory) : Nat → Nat → Option (List Byte)
  | _, 0 => some []
  | a, n + 1 =>
    match m.byteAt a, m.readBytes (a + 1) n with
    | some b, some bs => some (b :: bs)
    | _, _ => none

/-- Write the bytes to the addresses from `a` on. -/
def Memory.writeBytes (m : Memory) : Nat → List Byte → Memory
  | _, [] => m
  | a, b :: bs => (m.setByte a b).writeBytes (a + 1) bs

/-- `MemRead(a, n)` (R43), an unsigned integer of `8n` bits; `none` outside `n >= 1`, `a + n <= BYTES`. -/
def State.memRead (s : State) (a n : Nat) : Option Nat :=
  if 1 ≤ n ∧ a + n ≤ s.ht.numBytes then (s.W.readBytes a n).map bigEndian else none

/-- `MemWrite(a, n, v)` (R44); `none` outside `n >= 1`, `a + n <= BYTES`, `v < 2^(8n)`. -/
def State.memWrite (s : State) (a n v : Nat) : Option State :=
  if 1 ≤ n ∧ a + n ≤ s.ht.numBytes ∧ v < 2 ^ (8 * n) then
    some (s.setWords (s.W.writeBytes a (bytesOfNat n v)))
  else none

/-- Stream bit `t` of the whole buffer, bit 0 the most significant bit of byte 0 (R42): wire bit
`t mod 32` of word `t div 32`. -/
def Memory.streamBit (m : Memory) (t : Nat) : Option Bool := m[t / 32]?.map (wireBit · (t % 32))

/-- `raise OutOfRange` (R200, R201, R205, R206): the response says so, no word changes, nothing is saved,
nothing is remembered, and the machine goes on. There is no return from it (R207). -/
def raiseOutOfRange (s : State) : State := s.respond errResponse

/-- A cycle with `rst` high (R220, R221): every storage word 0, no response. -/
def resetCycle (s : State) : State := (s.setContainer (Container.zero s.ht)).silent

/-- A cycle with `rst` and `req_valid` low (R72, R100): nothing changes, no response. -/
def idleCycle (s : State) : State := s.silent

/-- CLR (R101). -/
def clearAll (s : State) : Result := .next ((s.setContainer (Container.zero s.ht)).respond okResponse)

/-- LDB (R102); a buffer of another size than `BYTES` is refused (R65, D18). -/
def loadBuffer (b : List Byte) (s : State) : Result :=
  if b.length = s.ht.numBytes then .next ((s.setWords (wordsOfBytes b)).respond okResponse)
  else .refused .bufferSize

/-- STB (R103). -/
def storeBuffer (s : State) : Result := .next (s.respond (dataResponse (bytesOfWords s.W)))

/-- GET of the field with descriptor `d` of the table of `ht` (R104); a descriptor that breaks the invariants is
refused (R15, R27, R90). -/
def getField (ht : HeaderType) (d : FieldDesc) (s : State) : Result :=
  if s.ht = ht then
    match s.readWord d.widx with
    | none => .refused (.noStorageWord d.widx)
    | some word =>
      match extract word d.off d.w with
      | none => .refused .outsideDomain
      | some v => .next (s.respond (valueResponse v))
  else .refused .otherInstance

/-- SET of the field with descriptor `d` of the table of `ht` to `v` (R105); a descriptor that breaks the
invariants is refused (R15, R27, R90). -/
def setField (ht : HeaderType) (d : FieldDesc) (v : Word) (s : State) : Result :=
  if s.ht = ht then
    match s.readWord d.widx with
    | none => .refused (.noStorageWord d.widx)
    | some word =>
      match deposit word d.off d.w v with
      | none => .refused .outsideDomain
      | some .outOfRange => .next (raiseOutOfRange s)
      | some (.ok word') => .next ((s.writeWord d.widx word').respond okResponse)
  else .refused .otherInstance

end Sys2Proof.Machine
end

