-- ==== Sys2Proof/Machine/Container.lean ====
section
/-!
DEFINITION. The whole-container commands CLR, LDB and STB (spec/41_container_ops.md R101 to R103).
-/

namespace Sys2Proof.Machine

/-- CLR: every storage word becomes 0 (R101). -/
def execClr (s : State) : Result := clearAll s

/-- LDB: the whole buffer is replaced by the bytes presented (R102). -/
def execLdb (data : List Byte) (s : State) : Result := loadBuffer data s

/-- STB: the response carries the whole buffer (R103). -/
def execStb (s : State) : Result := storeBuffer s

end Sys2Proof.Machine
end

