-- ==== Sys2Proof/Machine/Ipv4.lean ====
section
/-!
DEFINITION. GET and SET of each field of the IPV4 header (spec/42_ipv4_fields.md R121 to R142): the generic
commands of spec/41_container_ops.md R104 and R105 with the field's descriptor.
-/

namespace Sys2Proof.Machine

/-- GET VERSION (R121). -/
def execGetIpv4Version (s : State) : Result := getField .ipv4 Ipv4.version s

/-- SET VERSION, value (R121). -/
def execSetIpv4Version (value : Word) (s : State) : Result :=
  setField .ipv4 Ipv4.version value s

/-- GET IHL (R122). -/
def execGetIpv4Ihl (s : State) : Result := getField .ipv4 Ipv4.ihl s

/-- SET IHL, value (R122). -/
def execSetIpv4Ihl (value : Word) (s : State) : Result :=
  setField .ipv4 Ipv4.ihl value s

/-- GET TOS (R123). -/
def execGetIpv4Tos (s : State) : Result := getField .ipv4 Ipv4.tos s

/-- SET TOS, value (R123). -/
def execSetIpv4Tos (value : Word) (s : State) : Result :=
  setField .ipv4 Ipv4.tos value s

/-- GET PRECEDENCE (R124). -/
def execGetIpv4Precedence (s : State) : Result := getField .ipv4 Ipv4.precedence s

/-- SET PRECEDENCE, value (R124). -/
def execSetIpv4Precedence (value : Word) (s : State) : Result :=
  setField .ipv4 Ipv4.precedence value s

/-- GET DELAY (R125). -/
def execGetIpv4Delay (s : State) : Result := getField .ipv4 Ipv4.delay s

/-- SET DELAY, value (R125). -/
def execSetIpv4Delay (value : Word) (s : State) : Result :=
  setField .ipv4 Ipv4.delay value s

/-- GET THROUGHPUT (R126). -/
def execGetIpv4Throughput (s : State) : Result := getField .ipv4 Ipv4.throughput s

/-- SET THROUGHPUT, value (R126). -/
def execSetIpv4Throughput (value : Word) (s : State) : Result :=
  setField .ipv4 Ipv4.throughput value s

/-- GET RELIABILITY (R127). -/
def execGetIpv4Reliability (s : State) : Result := getField .ipv4 Ipv4.reliability s

/-- SET RELIABILITY, value (R127). -/
def execSetIpv4Reliability (value : Word) (s : State) : Result :=
  setField .ipv4 Ipv4.reliability value s

/-- GET TOS_RSVD (R128). -/
def execGetIpv4TosRsvd (s : State) : Result := getField .ipv4 Ipv4.tosRsvd s

/-- SET TOS_RSVD, value (R128). -/
def execSetIpv4TosRsvd (value : Word) (s : State) : Result :=
  setField .ipv4 Ipv4.tosRsvd value s

/-- GET TOTAL_LENGTH (R129). -/
def execGetIpv4TotalLength (s : State) : Result := getField .ipv4 Ipv4.totalLength s

/-- SET TOTAL_LENGTH, value (R129). -/
def execSetIpv4TotalLength (value : Word) (s : State) : Result :=
  setField .ipv4 Ipv4.totalLength value s

/-- GET IDENTIFICATION (R130). -/
def execGetIpv4Identification (s : State) : Result := getField .ipv4 Ipv4.identification s

/-- SET IDENTIFICATION, value (R130). -/
def execSetIpv4Identification (value : Word) (s : State) : Result :=
  setField .ipv4 Ipv4.identification value s

/-- GET FLAGS (R131). -/
def execGetIpv4Flags (s : State) : Result := getField .ipv4 Ipv4.flags s

/-- SET FLAGS, value (R131). -/
def execSetIpv4Flags (value : Word) (s : State) : Result :=
  setField .ipv4 Ipv4.flags value s

/-- GET FLAGS_RSVD (R132). -/
def execGetIpv4FlagsRsvd (s : State) : Result := getField .ipv4 Ipv4.flagsRsvd s

/-- SET FLAGS_RSVD, value (R132). -/
def execSetIpv4FlagsRsvd (value : Word) (s : State) : Result :=
  setField .ipv4 Ipv4.flagsRsvd value s

/-- GET DF (R133). -/
def execGetIpv4Df (s : State) : Result := getField .ipv4 Ipv4.df s

/-- SET DF, value (R133). -/
def execSetIpv4Df (value : Word) (s : State) : Result :=
  setField .ipv4 Ipv4.df value s

/-- GET MF (R134). -/
def execGetIpv4Mf (s : State) : Result := getField .ipv4 Ipv4.mf s

/-- SET MF, value (R134). -/
def execSetIpv4Mf (value : Word) (s : State) : Result :=
  setField .ipv4 Ipv4.mf value s

/-- GET FRAGMENT_OFFSET (R135). -/
def execGetIpv4FragmentOffset (s : State) : Result := getField .ipv4 Ipv4.fragmentOffset s

/-- SET FRAGMENT_OFFSET, value (R135). -/
def execSetIpv4FragmentOffset (value : Word) (s : State) : Result :=
  setField .ipv4 Ipv4.fragmentOffset value s

/-- GET TTL (R136). -/
def execGetIpv4Ttl (s : State) : Result := getField .ipv4 Ipv4.ttl s

/-- SET TTL, value (R136). -/
def execSetIpv4Ttl (value : Word) (s : State) : Result :=
  setField .ipv4 Ipv4.ttl value s

/-- GET PROTOCOL (R137). -/
def execGetIpv4Protocol (s : State) : Result := getField .ipv4 Ipv4.protocol s

/-- SET PROTOCOL, value (R137). -/
def execSetIpv4Protocol (value : Word) (s : State) : Result :=
  setField .ipv4 Ipv4.protocol value s

/-- GET HEADER_CHECKSUM (R138). -/
def execGetIpv4HeaderChecksum (s : State) : Result := getField .ipv4 Ipv4.headerChecksum s

/-- SET HEADER_CHECKSUM, value (R138). -/
def execSetIpv4HeaderChecksum (value : Word) (s : State) : Result :=
  setField .ipv4 Ipv4.headerChecksum value s

/-- GET SOURCE_ADDRESS (R139). -/
def execGetIpv4SourceAddress (s : State) : Result := getField .ipv4 Ipv4.sourceAddress s

/-- SET SOURCE_ADDRESS, value (R139). -/
def execSetIpv4SourceAddress (value : Word) (s : State) : Result :=
  setField .ipv4 Ipv4.sourceAddress value s

/-- GET DESTINATION_ADDRESS (R140). -/
def execGetIpv4DestinationAddress (s : State) : Result := getField .ipv4 Ipv4.destinationAddress s

/-- SET DESTINATION_ADDRESS, value (R140). -/
def execSetIpv4DestinationAddress (value : Word) (s : State) : Result :=
  setField .ipv4 Ipv4.destinationAddress value s

/-- GET OPTIONS (R141). -/
def execGetIpv4Options (s : State) : Result := getField .ipv4 Ipv4.options s

/-- SET OPTIONS, value (R141). -/
def execSetIpv4Options (value : Word) (s : State) : Result :=
  setField .ipv4 Ipv4.options value s

/-- GET PADDING (R142). -/
def execGetIpv4Padding (s : State) : Result := getField .ipv4 Ipv4.padding s

/-- SET PADDING, value (R142). -/
def execSetIpv4Padding (value : Word) (s : State) : Result :=
  setField .ipv4 Ipv4.padding value s

end Sys2Proof.Machine
end

