-- ==== Sys2Proof/Machine/Tcp.lean ====
section
/-!
DEFINITION. GET and SET of each field of the TCP header (spec/44_tcp_fields.md R161 to R177): the generic
commands of spec/41_container_ops.md R104 and R105 with the field's descriptor.
-/

namespace Sys2Proof.Machine

/-- GET SOURCE_PORT (R161). -/
def execGetTcpSourcePort (s : State) : Result := getField .tcp Tcp.sourcePort s

/-- SET SOURCE_PORT, value (R161). -/
def execSetTcpSourcePort (value : Word) (s : State) : Result :=
  setField .tcp Tcp.sourcePort value s

/-- GET DESTINATION_PORT (R162). -/
def execGetTcpDestinationPort (s : State) : Result := getField .tcp Tcp.destinationPort s

/-- SET DESTINATION_PORT, value (R162). -/
def execSetTcpDestinationPort (value : Word) (s : State) : Result :=
  setField .tcp Tcp.destinationPort value s

/-- GET SEQUENCE_NUMBER (R163). -/
def execGetTcpSequenceNumber (s : State) : Result := getField .tcp Tcp.sequenceNumber s

/-- SET SEQUENCE_NUMBER, value (R163). -/
def execSetTcpSequenceNumber (value : Word) (s : State) : Result :=
  setField .tcp Tcp.sequenceNumber value s

/-- GET ACKNOWLEDGMENT_NUMBER (R164). -/
def execGetTcpAcknowledgmentNumber (s : State) : Result := getField .tcp Tcp.acknowledgmentNumber s

/-- SET ACKNOWLEDGMENT_NUMBER, value (R164). -/
def execSetTcpAcknowledgmentNumber (value : Word) (s : State) : Result :=
  setField .tcp Tcp.acknowledgmentNumber value s

/-- GET DATA_OFFSET (R165). -/
def execGetTcpDataOffset (s : State) : Result := getField .tcp Tcp.dataOffset s

/-- SET DATA_OFFSET, value (R165). -/
def execSetTcpDataOffset (value : Word) (s : State) : Result :=
  setField .tcp Tcp.dataOffset value s

/-- GET RESERVED (R166). -/
def execGetTcpReserved (s : State) : Result := getField .tcp Tcp.reserved s

/-- SET RESERVED, value (R166). -/
def execSetTcpReserved (value : Word) (s : State) : Result :=
  setField .tcp Tcp.reserved value s

/-- GET CWR (R167). -/
def execGetTcpCwr (s : State) : Result := getField .tcp Tcp.cwr s

/-- SET CWR, value (R167). -/
def execSetTcpCwr (value : Word) (s : State) : Result :=
  setField .tcp Tcp.cwr value s

/-- GET ECE (R168). -/
def execGetTcpEce (s : State) : Result := getField .tcp Tcp.ece s

/-- SET ECE, value (R168). -/
def execSetTcpEce (value : Word) (s : State) : Result :=
  setField .tcp Tcp.ece value s

/-- GET URG (R169). -/
def execGetTcpUrg (s : State) : Result := getField .tcp Tcp.urg s

/-- SET URG, value (R169). -/
def execSetTcpUrg (value : Word) (s : State) : Result :=
  setField .tcp Tcp.urg value s

/-- GET ACK (R170). -/
def execGetTcpAck (s : State) : Result := getField .tcp Tcp.ack s

/-- SET ACK, value (R170). -/
def execSetTcpAck (value : Word) (s : State) : Result :=
  setField .tcp Tcp.ack value s

/-- GET PSH (R171). -/
def execGetTcpPsh (s : State) : Result := getField .tcp Tcp.psh s

/-- SET PSH, value (R171). -/
def execSetTcpPsh (value : Word) (s : State) : Result :=
  setField .tcp Tcp.psh value s

/-- GET RST (R172). -/
def execGetTcpRst (s : State) : Result := getField .tcp Tcp.rst s

/-- SET RST, value (R172). -/
def execSetTcpRst (value : Word) (s : State) : Result :=
  setField .tcp Tcp.rst value s

/-- GET SYN (R173). -/
def execGetTcpSyn (s : State) : Result := getField .tcp Tcp.syn s

/-- SET SYN, value (R173). -/
def execSetTcpSyn (value : Word) (s : State) : Result :=
  setField .tcp Tcp.syn value s

/-- GET FIN (R174). -/
def execGetTcpFin (s : State) : Result := getField .tcp Tcp.fin s

/-- SET FIN, value (R174). -/
def execSetTcpFin (value : Word) (s : State) : Result :=
  setField .tcp Tcp.fin value s

/-- GET WINDOW (R175). -/
def execGetTcpWindow (s : State) : Result := getField .tcp Tcp.window s

/-- SET WINDOW, value (R175). -/
def execSetTcpWindow (value : Word) (s : State) : Result :=
  setField .tcp Tcp.window value s

/-- GET CHECKSUM (R176). -/
def execGetTcpChecksum (s : State) : Result := getField .tcp Tcp.checksum s

/-- SET CHECKSUM, value (R176). -/
def execSetTcpChecksum (value : Word) (s : State) : Result :=
  setField .tcp Tcp.checksum value s

/-- GET URGENT_POINTER (R177). -/
def execGetTcpUrgentPointer (s : State) : Result := getField .tcp Tcp.urgentPointer s

/-- SET URGENT_POINTER, value (R177). -/
def execSetTcpUrgentPointer (value : Word) (s : State) : Result :=
  setField .tcp Tcp.urgentPointer value s

end Sys2Proof.Machine
end

