-- ==== Sys2Proof/Machine/Udp.lean ====
section
/-!
DEFINITION. GET and SET of each field of the UDP header (spec/43_udp_fields.md R151 to R154): the generic
commands of spec/41_container_ops.md R104 and R105 with the field's descriptor.
-/

namespace Sys2Proof.Machine

/-- GET SOURCE_PORT (R151). -/
def execGetUdpSourcePort (s : State) : Result := getField .udp Udp.sourcePort s

/-- SET SOURCE_PORT, value (R151). -/
def execSetUdpSourcePort (value : Word) (s : State) : Result :=
  setField .udp Udp.sourcePort value s

/-- GET DESTINATION_PORT (R152). -/
def execGetUdpDestinationPort (s : State) : Result := getField .udp Udp.destinationPort s

/-- SET DESTINATION_PORT, value (R152). -/
def execSetUdpDestinationPort (value : Word) (s : State) : Result :=
  setField .udp Udp.destinationPort value s

/-- GET LENGTH (R153). -/
def execGetUdpLength (s : State) : Result := getField .udp Udp.length s

/-- SET LENGTH, value (R153). -/
def execSetUdpLength (value : Word) (s : State) : Result :=
  setField .udp Udp.length value s

/-- GET CHECKSUM (R154). -/
def execGetUdpChecksum (s : State) : Result := getField .udp Udp.checksum s

/-- SET CHECKSUM, value (R154). -/
def execSetUdpChecksum (value : Word) (s : State) : Result :=
  setField .udp Udp.checksum value s

end Sys2Proof.Machine
end

