-- ==== Sys2Proof/Machine/Dispatch.lean ====
section
/-!
DEFINITION. The meaning of each command, one arm per row of spec/opcode_table.json.
-/

namespace Sys2Proof.Machine

def exec (i : Instr) (s : State) : Host.Outcome State Fault Refusal :=
  match i with
  | .clr => Sys2Proof.Machine.execClr s
  | .ldb data => Sys2Proof.Machine.execLdb data s
  | .stb => Sys2Proof.Machine.execStb s
  | .getIpv4Version => Sys2Proof.Machine.execGetIpv4Version s
  | .setIpv4Version value => Sys2Proof.Machine.execSetIpv4Version value s
  | .getIpv4Ihl => Sys2Proof.Machine.execGetIpv4Ihl s
  | .setIpv4Ihl value => Sys2Proof.Machine.execSetIpv4Ihl value s
  | .getIpv4Tos => Sys2Proof.Machine.execGetIpv4Tos s
  | .setIpv4Tos value => Sys2Proof.Machine.execSetIpv4Tos value s
  | .getIpv4Precedence => Sys2Proof.Machine.execGetIpv4Precedence s
  | .setIpv4Precedence value => Sys2Proof.Machine.execSetIpv4Precedence value s
  | .getIpv4Delay => Sys2Proof.Machine.execGetIpv4Delay s
  | .setIpv4Delay value => Sys2Proof.Machine.execSetIpv4Delay value s
  | .getIpv4Throughput => Sys2Proof.Machine.execGetIpv4Throughput s
  | .setIpv4Throughput value => Sys2Proof.Machine.execSetIpv4Throughput value s
  | .getIpv4Reliability => Sys2Proof.Machine.execGetIpv4Reliability s
  | .setIpv4Reliability value => Sys2Proof.Machine.execSetIpv4Reliability value s
  | .getIpv4TosRsvd => Sys2Proof.Machine.execGetIpv4TosRsvd s
  | .setIpv4TosRsvd value => Sys2Proof.Machine.execSetIpv4TosRsvd value s
  | .getIpv4TotalLength => Sys2Proof.Machine.execGetIpv4TotalLength s
  | .setIpv4TotalLength value => Sys2Proof.Machine.execSetIpv4TotalLength value s
  | .getIpv4Identification => Sys2Proof.Machine.execGetIpv4Identification s
  | .setIpv4Identification value => Sys2Proof.Machine.execSetIpv4Identification value s
  | .getIpv4Flags => Sys2Proof.Machine.execGetIpv4Flags s
  | .setIpv4Flags value => Sys2Proof.Machine.execSetIpv4Flags value s
  | .getIpv4FlagsRsvd => Sys2Proof.Machine.execGetIpv4FlagsRsvd s
  | .setIpv4FlagsRsvd value => Sys2Proof.Machine.execSetIpv4FlagsRsvd value s
  | .getIpv4Df => Sys2Proof.Machine.execGetIpv4Df s
  | .setIpv4Df value => Sys2Proof.Machine.execSetIpv4Df value s
  | .getIpv4Mf => Sys2Proof.Machine.execGetIpv4Mf s
  | .setIpv4Mf value => Sys2Proof.Machine.execSetIpv4Mf value s
  | .getIpv4FragmentOffset => Sys2Proof.Machine.execGetIpv4FragmentOffset s
  | .setIpv4FragmentOffset value => Sys2Proof.Machine.execSetIpv4FragmentOffset value s
  | .getIpv4Ttl => Sys2Proof.Machine.execGetIpv4Ttl s
  | .setIpv4Ttl value => Sys2Proof.Machine.execSetIpv4Ttl value s
  | .getIpv4Protocol => Sys2Proof.Machine.execGetIpv4Protocol s
  | .setIpv4Protocol value => Sys2Proof.Machine.execSetIpv4Protocol value s
  | .getIpv4HeaderChecksum => Sys2Proof.Machine.execGetIpv4HeaderChecksum s
  | .setIpv4HeaderChecksum value => Sys2Proof.Machine.execSetIpv4HeaderChecksum value s
  | .getIpv4SourceAddress => Sys2Proof.Machine.execGetIpv4SourceAddress s
  | .setIpv4SourceAddress value => Sys2Proof.Machine.execSetIpv4SourceAddress value s
  | .getIpv4DestinationAddress => Sys2Proof.Machine.execGetIpv4DestinationAddress s
  | .setIpv4DestinationAddress value => Sys2Proof.Machine.execSetIpv4DestinationAddress value s
  | .getIpv4Options => Sys2Proof.Machine.execGetIpv4Options s
  | .setIpv4Options value => Sys2Proof.Machine.execSetIpv4Options value s
  | .getIpv4Padding => Sys2Proof.Machine.execGetIpv4Padding s
  | .setIpv4Padding value => Sys2Proof.Machine.execSetIpv4Padding value s
  | .getUdpSourcePort => Sys2Proof.Machine.execGetUdpSourcePort s
  | .setUdpSourcePort value => Sys2Proof.Machine.execSetUdpSourcePort value s
  | .getUdpDestinationPort => Sys2Proof.Machine.execGetUdpDestinationPort s
  | .setUdpDestinationPort value => Sys2Proof.Machine.execSetUdpDestinationPort value s
  | .getUdpLength => Sys2Proof.Machine.execGetUdpLength s
  | .setUdpLength value => Sys2Proof.Machine.execSetUdpLength value s
  | .getUdpChecksum => Sys2Proof.Machine.execGetUdpChecksum s
  | .setUdpChecksum value => Sys2Proof.Machine.execSetUdpChecksum value s
  | .getTcpSourcePort => Sys2Proof.Machine.execGetTcpSourcePort s
  | .setTcpSourcePort value => Sys2Proof.Machine.execSetTcpSourcePort value s
  | .getTcpDestinationPort => Sys2Proof.Machine.execGetTcpDestinationPort s
  | .setTcpDestinationPort value => Sys2Proof.Machine.execSetTcpDestinationPort value s
  | .getTcpSequenceNumber => Sys2Proof.Machine.execGetTcpSequenceNumber s
  | .setTcpSequenceNumber value => Sys2Proof.Machine.execSetTcpSequenceNumber value s
  | .getTcpAcknowledgmentNumber => Sys2Proof.Machine.execGetTcpAcknowledgmentNumber s
  | .setTcpAcknowledgmentNumber value => Sys2Proof.Machine.execSetTcpAcknowledgmentNumber value s
  | .getTcpDataOffset => Sys2Proof.Machine.execGetTcpDataOffset s
  | .setTcpDataOffset value => Sys2Proof.Machine.execSetTcpDataOffset value s
  | .getTcpReserved => Sys2Proof.Machine.execGetTcpReserved s
  | .setTcpReserved value => Sys2Proof.Machine.execSetTcpReserved value s
  | .getTcpCwr => Sys2Proof.Machine.execGetTcpCwr s
  | .setTcpCwr value => Sys2Proof.Machine.execSetTcpCwr value s
  | .getTcpEce => Sys2Proof.Machine.execGetTcpEce s
  | .setTcpEce value => Sys2Proof.Machine.execSetTcpEce value s
  | .getTcpUrg => Sys2Proof.Machine.execGetTcpUrg s
  | .setTcpUrg value => Sys2Proof.Machine.execSetTcpUrg value s
  | .getTcpAck => Sys2Proof.Machine.execGetTcpAck s
  | .setTcpAck value => Sys2Proof.Machine.execSetTcpAck value s
  | .getTcpPsh => Sys2Proof.Machine.execGetTcpPsh s
  | .setTcpPsh value => Sys2Proof.Machine.execSetTcpPsh value s
  | .getTcpRst => Sys2Proof.Machine.execGetTcpRst s
  | .setTcpRst value => Sys2Proof.Machine.execSetTcpRst value s
  | .getTcpSyn => Sys2Proof.Machine.execGetTcpSyn s
  | .setTcpSyn value => Sys2Proof.Machine.execSetTcpSyn value s
  | .getTcpFin => Sys2Proof.Machine.execGetTcpFin s
  | .setTcpFin value => Sys2Proof.Machine.execSetTcpFin value s
  | .getTcpWindow => Sys2Proof.Machine.execGetTcpWindow s
  | .setTcpWindow value => Sys2Proof.Machine.execSetTcpWindow value s
  | .getTcpChecksum => Sys2Proof.Machine.execGetTcpChecksum s
  | .setTcpChecksum value => Sys2Proof.Machine.execSetTcpChecksum value s
  | .getTcpUrgentPointer => Sys2Proof.Machine.execGetTcpUrgentPointer s
  | .setTcpUrgentPointer value => Sys2Proof.Machine.execSetTcpUrgentPointer value s

end Sys2Proof.Machine
end

