-- ==== Sys2Proof/Machine/Fetch.lean ====
section
/-!
DEFINITION. What one clock cycle presents. The BFA does not fetch (spec/10_state.md R23): the requester
presents a command on the request port, and reset wins over a command of the same cycle
(spec/70_reset_and_hazards.md R221; spec/30_encoding.md R60, R72).
-/

namespace Sys2Proof.Machine

/-- What the coming cycle is, with the state its effect starts from or ends in. -/
inductive Fetched where
  /-- No command is performed in this cycle; it ends in `s`. -/
  | done (s : State)
  /-- The command `i` is performed on `s`. -/
  | run (i : Instr) (s : State)
  /-- The presented request is reserved (R67). -/
  | refuse (why : DecodeError)
  deriving DecidableEq, Repr

/-- The effect of the cycle's inputs `c` on `s` (R220, R221, R72, R67). -/
def applyCycle (c : PortCycle) (s : State) : Fetched :=
  if c.rst then .done (resetCycle s)
  else if c.valid then
    match decode s.ht c.req with
    | .ok i => .run i s
    | .error e => .refuse e
  else .done (idleCycle s)

/-- Take the next cycle from the request port; past its end the port is idle (R60; log entry 2). -/
def fetch (s : State) : Fetched :=
  match s.port with
  | [] => .done (idleCycle s)
  | c :: rest => applyCycle c (s.setPort rest)

/-- The cycle in which the requester presents the request `r` and does not assert reset (R60). -/
def commandCycle (r : Request) : PortCycle := { rst := false, valid := true, req := r }

/-- The request port with a table word presented in its next cycle (log entry 4): the cycle that stood
there, if any, is replaced. -/
def presentTableWord (s : State) (w : Nat) : State :=
  s.setPort (commandCycle (tableRequest s.ht w) :: s.port.drop 1)

end Sys2Proof.Machine
end

