-- ==== Sys2Proof/Machine/Step.lean ====
section
/-!
DEFINITION. One step: one clock cycle of the instance (spec/41_container_ops.md R100; spec/30_encoding.md
R60). A cycle without a command ends where `fetch` says; a command is performed whole, with its response.
-/

namespace Sys2Proof.Machine

/-- One cycle. -/
def step (s : State) : Host.Outcome State Fault Refusal :=
  match fetch s with
  | .done t => .next t
  | .run i t => exec i t
  | .refuse why => .refused (.reserved why)

/-- The state with a table word presented in the coming cycle: operand ports 0, no reset (log entry 4). -/
def State.withFetchWord (s : State) (_nbits w : Nat) : State := presentTableWord s w

end Sys2Proof.Machine
end

