-- ==== Sys2Proof/Machine/EnumViews.lean ====
section
/-!
DEFINITION. The enumerated views of the six IPv4 fields and the nested Type-of-Service and IP-flags
containers (spec/45_enum_views.md R185 to R195), and setting and getting through a view (spec/30_encoding.md
R70). A view owns no state: it is a pair of functions between names and raw integers.
The names other than Don't Fragment are PRESUMED: the spec supplies them from general knowledge (G1) and no
response and no state depends on a name (log entry 9).
-/

namespace Sys2Proof.Machine

/-- PRECEDENCE (R186). -/
inductive Precedence where
  | routine | priority | immediate | flash
  | flashOverride | criticEcp | internetworkControl | networkControl
  deriving DecidableEq, Repr

/-- DELAY (R187). -/
inductive Delay where
  | normalDelay | lowDelay
  deriving DecidableEq, Repr

/-- THROUGHPUT (R188). -/
inductive Throughput where
  | normalThroughput | highThroughput
  deriving DecidableEq, Repr

/-- RELIABILITY (R189). -/
inductive Reliability where
  | normalReliability | highReliability
  deriving DecidableEq, Repr

/-- DF (R190). -/
inductive DontFragment where
  | mayFragment | dontFragment
  deriving DecidableEq, Repr

/-- MF (R191). -/
inductive MoreFragments where
  | lastFragment | moreFragments
  deriving DecidableEq, Repr

/-- `code` of PRECEDENCE (R186). -/
def Precedence.code : Precedence → BitVec 3
  | .routine => 0#3
  | .priority => 1#3
  | .immediate => 2#3
  | .flash => 3#3
  | .flashOverride => 4#3
  | .criticEcp => 5#3
  | .internetworkControl => 6#3
  | .networkControl => 7#3

/-- `name` of PRECEDENCE (R186). -/
def Precedence.name (v : BitVec 3) : Precedence :=
  match v.toNat with
  | 0 => .routine
  | 1 => .priority
  | 2 => .immediate
  | 3 => .flash
  | 4 => .flashOverride
  | 5 => .criticEcp
  | 6 => .internetworkControl
  | _ => .networkControl

/-- `code` of DELAY (R187). -/
def Delay.code : Delay → BitVec 1
  | .normalDelay => 0#1
  | .lowDelay => 1#1

/-- `name` of DELAY (R187). -/
def Delay.name (v : BitVec 1) : Delay := if v = 1#1 then .lowDelay else .normalDelay

/-- `code` of THROUGHPUT (R188). -/
def Throughput.code : Throughput → BitVec 1
  | .normalThroughput => 0#1
  | .highThroughput => 1#1

/-- `name` of THROUGHPUT (R188). -/
def Throughput.name (v : BitVec 1) : Throughput :=
  if v = 1#1 then .highThroughput else .normalThroughput

/-- `code` of RELIABILITY (R189). -/
def Reliability.code : Reliability → BitVec 1
  | .normalReliability => 0#1
  | .highReliability => 1#1

/-- `name` of RELIABILITY (R189). -/
def Reliability.name (v : BitVec 1) : Reliability :=
  if v = 1#1 then .highReliability else .normalReliability

/-- `code` of DF (R190). -/
def DontFragment.code : DontFragment → BitVec 1
  | .mayFragment => 0#1
  | .dontFragment => 1#1

/-- `name` of DF (R190). -/
def DontFragment.name (v : BitVec 1) : DontFragment := if v = 1#1 then .dontFragment else .mayFragment

/-- `code` of MF (R191). -/
def MoreFragments.code : MoreFragments → BitVec 1
  | .lastFragment => 0#1
  | .moreFragments => 1#1

/-- `name` of MF (R191). -/
def MoreFragments.name (v : BitVec 1) : MoreFragments := if v = 1#1 then .moreFragments else .lastFragment

/-- `SETE PRECEDENCE, n` expands to `SET PRECEDENCE, code(n)` (R70, R195). -/
def setePrecedence (n : Precedence) : Instr := .setIpv4Precedence (n.code.setWidth 32)

/-- `SETE DELAY, n` (R70, R195). -/
def seteDelay (n : Delay) : Instr := .setIpv4Delay (n.code.setWidth 32)

/-- `SETE THROUGHPUT, n` (R70, R195). -/
def seteThroughput (n : Throughput) : Instr := .setIpv4Throughput (n.code.setWidth 32)

/-- `SETE RELIABILITY, n` (R70, R195). -/
def seteReliability (n : Reliability) : Instr := .setIpv4Reliability (n.code.setWidth 32)

/-- `SETE DF, n` (R70, R195). -/
def seteDf (n : DontFragment) : Instr := .setIpv4Df (n.code.setWidth 32)

/-- `SETE MF, n` (R70, R195). -/
def seteMf (n : MoreFragments) : Instr := .setIpv4Mf (n.code.setWidth 32)

/-- `GETE PRECEDENCE` shows `name(value)` of the response to `GET PRECEDENCE` (R70, R195). -/
def getePrecedence (r : Response) : Option Precedence :=
  r.value.map fun v => Precedence.name (v.setWidth 3)

/-- `GETE DELAY` (R70, R195). -/
def geteDelay (r : Response) : Option Delay := r.value.map fun v => Delay.name (v.setWidth 1)

/-- `GETE THROUGHPUT` (R70, R195). -/
def geteThroughput (r : Response) : Option Throughput :=
  r.value.map fun v => Throughput.name (v.setWidth 1)

/-- `GETE RELIABILITY` (R70, R195). -/
def geteReliability (r : Response) : Option Reliability :=
  r.value.map fun v => Reliability.name (v.setWidth 1)

/-- `GETE DF` (R70, R195). -/
def geteDf (r : Response) : Option DontFragment :=
  r.value.map fun v => DontFragment.name (v.setWidth 1)

/-- `GETE MF` (R70, R195). -/
def geteMf (r : Response) : Option MoreFragments :=
  r.value.map fun v => MoreFragments.name (v.setWidth 1)

/-- `TosPack(p, d, th, r, z)` (R192). -/
def tosPack (p : BitVec 3) (d th r : BitVec 1) (z : BitVec 2) : BitVec 8 :=
  (p.setWidth 8 <<< 5) ||| (d.setWidth 8 <<< 4) ||| (th.setWidth 8 <<< 3) ||| (r.setWidth 8 <<< 2)
    ||| z.setWidth 8

/-- `precedence(t) = t[7:5]` (R192). -/
def tosPrecedence (t : BitVec 8) : BitVec 3 := t.extractLsb' 5 3

/-- `delay(t) = t[4]` (R192). -/
def tosDelay (t : BitVec 8) : BitVec 1 := t.extractLsb' 4 1

/-- `throughput(t) = t[3]` (R192). -/
def tosThroughput (t : BitVec 8) : BitVec 1 := t.extractLsb' 3 1

/-- `reliability(t) = t[2]` (R192). -/
def tosReliability (t : BitVec 8) : BitVec 1 := t.extractLsb' 2 1

/-- `reserved(t) = t[1:0]` (R192). -/
def tosReserved (t : BitVec 8) : BitVec 2 := t.extractLsb' 0 2

/-- `FlagsPack(z, df, mf)` (R193). -/
def flagsPack (z df mf : BitVec 1) : BitVec 3 :=
  (z.setWidth 3 <<< 2) ||| (df.setWidth 3 <<< 1) ||| mf.setWidth 3

/-- `reserved(g) = g[2]` (R193). -/
def flagsReserved (g : BitVec 3) : BitVec 1 := g.extractLsb' 2 1

/-- `df(g) = g[1]` (R193). -/
def flagsDf (g : BitVec 3) : BitVec 1 := g.extractLsb' 1 1

/-- `mf(g) = g[0]` (R193). -/
def flagsMf (g : BitVec 3) : BitVec 1 := g.extractLsb' 0 1

end Sys2Proof.Machine
end

