-- ==== Sys2Proof/Machine/Text.lean ====
section
/-!
DEFINITION. The textual form of a command (spec/30_encoding.md R69, R70; decisions D12, D15): what a line
says, which command it stands for, how its characters are read, and how a response is shown. The hardware
holds none of it; the spec uses it to spell its examples. Spacing and the case of hex digits, on which the
spec is silent, are read leniently (log entry 13).
-/

namespace Sys2Proof.Machine

/-- A line of the textual form, its field and value names as written (R69, R70). -/
inductive Line where
  | clr
  | ldb (bytes : List Nat)
  | stb
  | get (field : String)
  | set (field : String) (value : Nat)
  | setBool (field : String) (b : Bool)
  | sete (field name : String)
  | gete (field : String)
  deriving DecidableEq, Repr

/-- The spelling of a PRECEDENCE name (R186). -/
def Precedence.spelling : Precedence → String
  | .routine => "Routine"
  | .priority => "Priority"
  | .immediate => "Immediate"
  | .flash => "Flash"
  | .flashOverride => "Flash Override"
  | .criticEcp => "CRITIC/ECP"
  | .internetworkControl => "Internetwork Control"
  | .networkControl => "Network Control"

/-- The spelling of a DELAY name (R187). -/
def Delay.spelling : Delay → String
  | .normalDelay => "Normal Delay"
  | .lowDelay => "Low Delay"

/-- The spelling of a THROUGHPUT name (R188). -/
def Throughput.spelling : Throughput → String
  | .normalThroughput => "Normal Throughput"
  | .highThroughput => "High Throughput"

/-- The spelling of a RELIABILITY name (R189). -/
def Reliability.spelling : Reliability → String
  | .normalReliability => "Normal Reliability"
  | .highReliability => "High Reliability"

/-- The spelling of a DF name (R190). -/
def DontFragment.spelling : DontFragment → String
  | .mayFragment => "May Fragment"
  | .dontFragment => "Don't Fragment"

/-- The spelling of an MF name (R191). -/
def MoreFragments.spelling : MoreFragments → String
  | .lastFragment => "Last Fragment"
  | .moreFragments => "More Fragments"

/-- The spellings of an enumerated field's values in the order of their codes, from 0; `none` for a field
without an enumerated view. The six fields are those of R185, all of the IPv4 header. -/
def enumSpellings (ht : HeaderType) (field : String) : Option (List String) :=
  match ht with
  | .ipv4 =>
    if field = "PRECEDENCE" then
      some ((List.range 8).map fun k => (Precedence.name (BitVec.ofNat 3 k)).spelling)
    else if field = "DELAY" then
      some ((List.range 2).map fun k => (Delay.name (BitVec.ofNat 1 k)).spelling)
    else if field = "THROUGHPUT" then
      some ((List.range 2).map fun k => (Throughput.name (BitVec.ofNat 1 k)).spelling)
    else if field = "RELIABILITY" then
      some ((List.range 2).map fun k => (Reliability.name (BitVec.ofNat 1 k)).spelling)
    else if field = "DF" then
      some ((List.range 2).map fun k => (DontFragment.name (BitVec.ofNat 1 k)).spelling)
    else if field = "MF" then
      some ((List.range 2).map fun k => (MoreFragments.name (BitVec.ofNat 1 k)).spelling)
    else none
  | .udp => none
  | .tcp => none

/-- The `fid` a field name assembles to (R64, R69). -/
def fidOf (ht : HeaderType) (field : String) : Option Nat :=
  (fields ht).findIdx? fun r => decide (r.name = field)

/-- `GET <FIELD>` (R69). -/
def assembleGet (ht : HeaderType) (field : String) : Option Instr :=
  (fidOf ht field).bind fun fid => (decodeGet ht fid).toOption

/-- `SET <FIELD>, <value>` (R69); the operand is a 32-bit number (R63). -/
def assembleSet (ht : HeaderType) (field : String) (value : Nat) : Option Instr :=
  if value < 2 ^ 32 then
    (fidOf ht field).bind fun fid => (decodeSet ht (BitVec.ofNat 32 value) fid).toOption
  else none

/-- `LDB b0 b1 ... b(BYTES-1)` (R69): exactly `BYTES` numbers of two hex digits each. -/
def assembleLdb (ht : HeaderType) (bytes : List Nat) : Option Instr :=
  if bytes.length = ht.numBytes ∧ bytes.all (fun b => decide (b < 256)) then
    some (.ldb (bytes.map (BitVec.ofNat 8)))
  else none

/-- `SET <FIELD>, true` and `SET <FIELD>, false`, on a 1-bit field only (R70). -/
def assembleSetBool (ht : HeaderType) (field : String) (b : Bool) : Option Instr :=
  match (fidOf ht field).bind (desc ht) with
  | some d => if d.w = 1 then assembleSet ht field b.toNat else none
  | none => none

/-- `SETE <FIELD>, <NAME>` is `SET <FIELD>, code(NAME)` (R70, R195). -/
def assembleSete (ht : HeaderType) (field name : String) : Option Instr :=
  (enumSpellings ht field).bind fun names =>
    (names.findIdx? fun n => decide (n = name)).bind fun code => assembleSet ht field code

/-- `GETE <FIELD>` is `GET <FIELD>`, on an enumerated field (R70). -/
def assembleGete (ht : HeaderType) (field : String) : Option Instr :=
  (enumSpellings ht field).bind fun _ => assembleGet ht field

/-- The one command a line stands for in an instance of header type `ht`; `none` if it stands for none. -/
def assemble (ht : HeaderType) : Line → Option Instr
  | .clr => some .clr
  | .ldb bytes => assembleLdb ht bytes
  | .stb => some .stb
  | .get field => assembleGet ht field
  | .set field value => assembleSet ht field value
  | .setBool field b => assembleSetBool ht field b
  | .sete field name => assembleSete ht field name
  | .gete field => assembleGete ht field

/-- How `GETE <FIELD>` shows a value: `name(value)` (R70). -/
def showEnum (ht : HeaderType) (field : String) (value : Word) : Option String :=
  (enumSpellings ht field).bind fun names => names[value.toNat]?

/-- Whether a character only separates words. -/
def isBlank (c : Char) : Bool := c == ' ' || c == '\t' || c == '\r'

/-- A line without its comment: `;` to the end of the line is one (R69). -/
def stripComment (cs : List Char) : List Char := cs.takeWhile fun c => c != ';'

/-- The characters without the blanks before and after them. -/
def trim (cs : List Char) : List Char := ((cs.dropWhile isBlank).reverse.dropWhile isBlank).reverse

/-- The pieces between the separators that `sep` accepts, empty ones kept. -/
def splitBy (sep : Char → Bool) : List Char → List (List Char)
  | [] => [[]]
  | c :: cs =>
    if sep c then [] :: splitBy sep cs
    else
      match splitBy sep cs with
      | [] => [[c]]
      | p :: ps => (c :: p) :: ps

/-- The words of a text: the non-empty pieces between blanks. -/
def wordsOf (cs : List Char) : List (List Char) := (splitBy isBlank cs).filter fun w => !w.isEmpty

/-- The value of a digit, `none` for a character that is not one in base 16; both cases are read. -/
def digitOf (c : Char) : Option Nat :=
  let n := c.toNat
  if 48 ≤ n ∧ n ≤ 57 then some (n - 48)
  else if 65 ≤ n ∧ n ≤ 70 then some (n - 55)
  else if 97 ≤ n ∧ n ≤ 102 then some (n - 87)
  else none

/-- The number that a row of digits of a base stands for, after what `acc` has collected. -/
def readDigits (base : Nat) : Nat → List Char → Option Nat
  | acc, [] => some acc
  | acc, c :: cs =>
    match digitOf c with
    | some d => if d < base then readDigits base (base * acc + d) cs else none
    | none => none

/-- A number: decimal, or `0x` and hexadecimal (R69). -/
def readNumber : List Char → Option Nat
  | [] => none
  | '0' :: 'x' :: c :: cs => readDigits 16 0 (c :: cs)
  | c :: cs => readDigits 10 0 (c :: cs)

/-- A byte of LDB: two hex digits (R69). -/
def readByte (cs : List Char) : Option Nat := if cs.length = 2 then readDigits 16 0 cs else none

/-- What follows GET or GETE: one field name. -/
def readField (cs : List Char) : Option String :=
  match wordsOf cs with
  | [w] => some (String.ofList w)
  | _ => none

/-- What follows SET or SETE: a field name, a comma and the operand's text (R69, R70). -/
def readPair (cs : List Char) : Option (String × List Char) :=
  match splitBy (fun c => c == ',') cs with
  | [f, v] => (readField f).map fun name => (name, trim v)
  | _ => none

/-- The operand of SET: a number, or `true` or `false` (R69, R70). -/
def readSet (field : String) (v : List Char) : Option Line :=
  if String.ofList v = "true" then some (.setBool field true)
  else if String.ofList v = "false" then some (.setBool field false)
  else (readNumber v).map fun n => .set field n

/-- A line's first word and what follows it. -/
def readMnemonic (m : String) (rest : List Char) : Option Line :=
  if m = "CLR" then if (trim rest).isEmpty then some .clr else none
  else if m = "LDB" then ((wordsOf rest).mapM readByte).map .ldb
  else if m = "STB" then if (trim rest).isEmpty then some .stb else none
  else if m = "GET" then (readField rest).map .get
  else if m = "SET" then (readPair rest).bind fun p => readSet p.1 p.2
  else if m = "SETE" then (readPair rest).map fun p => .sete p.1 (String.ofList p.2)
  else if m = "GETE" then (readField rest).map .gete
  else none

/-- Read one line of the textual form; `none` if it is not one (R69, R70). -/
def readLine (cs : List Char) : Option Line :=
  let body := trim (stripComment cs)
  let mnemonic := body.takeWhile fun c => !isBlank c
  readMnemonic (String.ofList mnemonic) (body.drop mnemonic.length)

/-- The command a line of text stands for in an instance of header type `ht` (R69, R70). -/
def assembleLine (ht : HeaderType) (cs : List Char) : Option Instr := (readLine cs).bind (assemble ht)

/-- A text, one command per line; a line with nothing but blanks and a comment is passed over (R69). -/
def assembleText (ht : HeaderType) (text : String) : Option (List Instr) :=
  ((splitBy (fun c => c == '\n') text.toList).filter fun l => !(trim (stripComment l)).isEmpty).mapM
    (assembleLine ht)

/-- One hex digit. -/
def hexDigit (n : Nat) : Char := if n < 10 then Char.ofNat (48 + n) else Char.ofNat (55 + n)

/-- The text of a byte: two hex digits (R69). -/
def showByte (b : Byte) : List Char := [hexDigit (b.toNat / 16), hexDigit (b.toNat % 16)]

/-- The text of a buffer, byte 0 first (R69). -/
def showBytes : List Byte → List Char
  | [] => []
  | [b] => showByte b
  | b :: bs => showByte b ++ ' ' :: showBytes bs

/-- The text of a response: `OutOfRange`, the value of a GET (here in `0x` and eight hex digits), the bytes
of an STB, or `ok` (R69). -/
def showResponse (r : Response) : String :=
  if r.err then "OutOfRange"
  else
    match r.value, r.data with
    | some v, _ => String.ofList ('0' :: 'x' :: (bytesOfWord v).flatMap showByte)
    | none, some b => String.ofList (showBytes b)
    | none, none => "ok"

end Sys2Proof.Machine
end

