-- ==== Sys2Proof/Safety.lean ====
section
/-!
DEFINITION. The invariant of a state, what a legal command stream is, and what a run leaves behind
(spec/10_state.md R20; spec/41_container_ops.md R100; spec/30_encoding.md R66, R67; spec/70_reset_and_hazards.md
R224), in the terms the claims use.
-/

namespace Sys2Proof.Machine

/-- A response as the commands make them (R66): with `err = 1` no other output; never both a value and a
buffer; a buffer has exactly `BYTES` bytes. -/
def Response.wf (ht : HeaderType) (r : Response) : Bool :=
  (!r.err || (r.value.isNone && r.data.isNone))
    && (r.value.isNone || r.data.isNone)
    && r.data.all (fun b => decide (b.length = ht.numBytes))

/-- The invariant of an instance: port inputs of the ports' widths (R60, R65), and a response, if there is one,
of the form R66 gives. That there are exactly `N` storage words (R20) is no part of it: the type says so. -/
def State.wf (s : State) : Prop :=
  (∀ c ∈ s.port, c.req.wf s.ht = true) ∧ (∀ r ∈ s.rsp, r.wf s.ht = true)

/-- A cycle that carries no reserved request to an instance of header type `ht` (R67): reset, idle, or a
command that decodes. -/
def PortCycle.legal (ht : HeaderType) (c : PortCycle) : Bool :=
  c.rst || !c.valid || (decode ht c.req).toBool

/-- A command stream free of reserved encodings (R67, D9). -/
def State.legalStream (s : State) : Prop := ∀ c ∈ s.port, c.legal s.ht = true

/-- What a run of `n` cycles leaves behind (R224): the response of each cycle in order (`none` for a cycle
without one) and the final state; `none` if a cycle has no step. -/
def trace : Nat → State → Option (List (Option Response) × State)
  | 0, s => some ([], s)
  | n + 1, s =>
    match step s with
    | .next t => (trace n t).map fun p => (t.rsp :: p.1, p.2)
    | .fault _ => none
    | .refused _ => none

/-- Perform a list of commands one after another, in order (R50, R100); `none` if one has no step. -/
def execAll : List Instr → State → Option State
  | [], s => some s
  | i :: is, s =>
    match exec i s with
    | .next t => execAll is t
    | .fault _ => none
    | .refused _ => none

/-- The command byte of `GET f`, `0x80 + fid` (R62). -/
def getCmd (fid : Nat) : BitVec 8 := BitVec.ofNat 8 (0x80 + fid)

/-- The command byte of `SET f`, `0xA0 + fid` (R62). -/
def setCmd (fid : Nat) : BitVec 8 := BitVec.ofNat 8 (0xA0 + fid)

/-- The row of the descriptor table that a GET or SET names; `none` for CLR, LDB and STB (R26, R64). -/
def fieldRow (i : Instr) : Option FieldRow := i.header.bind fun ht => (fields ht)[i.fid.toNat]?

/-- The value the field with descriptor `d` holds in `s` (R83); read only where the word exists. -/
def State.field (s : State) (d : FieldDesc) : Word := extractBits (s.W.getD d.widx 0) d.off d.w

/-- The state a command ends in; `none` if it has no step. -/
def after (i : Instr) (s : State) : Option State :=
  match exec i s with
  | .next t => some t
  | .fault _ => none
  | .refused _ => none

/-- The response a command answers; `none` if it has none. -/
def answer (i : Instr) (s : State) : Option Response := (after i s).bind State.rsp

/-- The command writes bits of the field with descriptor `d`: CLR and LDB write every word, a SET whose value
fits the bits of its own field, a failed SET, GET and STB none (R21, R46, R107, R206). -/
def writesBitsOf (i : Instr) (d : FieldDesc) : Bool :=
  if i.op = 0b001#3 ∨ i.op = 0b010#3 then true
  else if i.op = 0b101#3 then
    match fieldRow i with
    | some r => !exceeds r.desc.w i.valueOperand && !r.desc.disjoint d
    | none => true
  else false

end Sys2Proof.Machine
end

