-- ==== Sys2Proof/Certificates/Slice0/Obligations.lean ====
section
/-!
DEFINITION. The statements for the provers. Each says what a rule of spec/, or a part of one, claims of the
machine; OBLIGATIONS.json lists them. Every state has exactly the `N` storage words
of its header type: the type `Container` says so (R20), and no statement needs it as a hypothesis.
-/

open Sys2Proof Sys2Proof.Machine

/-- Encoder and decoder agree on every well-formed command of every instance (R61 to R65). -/
def Obligations.DecodeEncodeAgree : Prop :=
  ∀ (ht : HeaderType) (i : Instr), i.wf ht = true →
    (encode ht i).wf ht = true ∧ decode ht (encode ht i) = .ok i

/-- No two command bytes stand for one command, and no operand bit is lost (R61 to R65). -/
def Obligations.EncodeDecodeAgree : Prop :=
  ∀ (ht : HeaderType) (r : Request) (i : Instr), decode ht r = .ok i →
    i.wf ht = true ∧ (encode ht i).cmd = r.cmd ∧
    (i.op = 0b101#3 → (encode ht i).value = r.value) ∧
    (i.op = 0b010#3 → (encode ht i).data = r.data)

/-- A sanity statement about decoding single bytes (R62, R64). -/
def Obligations.CommandBytesDecodeAsTheSpecLists : Prop :=
  ∀ (ht : HeaderType) (v : Word) (d : List Byte),
    decode ht ⟨0x20#8, v, d⟩ = .ok .clr ∧
    (d.length = ht.numBytes → decode ht ⟨0x40#8, v, d⟩ = .ok (.ldb d)) ∧
    decode ht ⟨0x60#8, v, d⟩ = .ok .stb ∧
    decode .ipv4 ⟨0x8E#8, v, d⟩ = .ok .getIpv4FragmentOffset ∧
    decode .ipv4 ⟨0xB5#8, v, d⟩ = .ok (.setIpv4Padding v) ∧
    decode .udp ⟨0x83#8, v, d⟩ = .ok .getUdpChecksum ∧
    decode .udp ⟨0xA0#8, v, d⟩ = .ok (.setUdpSourcePort v) ∧
    decode .tcp ⟨0x90#8, v, d⟩ = .ok .getTcpUrgentPointer ∧
    decode .tcp ⟨0xAC#8, v, d⟩ = .ok (.setTcpSyn v)

/-- A reserved encoding raises no error response: there is no step (R67). -/
def Obligations.ExactlyTheReservedRequestsAreRefused : Prop :=
  ∀ (ht : HeaderType) (r : Request), r.wf ht = true →
    ((∃ e, decode ht r = .error e) ↔
      (let op := r.cmd.toNat / 32
       let fid := r.cmd.toNat % 32
       (op = 0 ∨ op = 6 ∨ op = 7) ∨ ((op = 1 ∨ op = 2 ∨ op = 3) ∧ fid ≠ 0) ∨
       ((op = 4 ∨ op = 5) ∧ (match ht with | .ipv4 => 22 | .udp => 4 | .tcp => 17) ≤ fid))) ∧
    ∀ (e : DecodeError), decode ht r = .error e →
      ∀ (s : State) (c : PortCycle) (rest : List PortCycle),
        s.ht = ht → s.port = c :: rest → c.rst = false → c.valid = true → c.req = r →
        step s = .refused (.reserved e)

/-- `req_value` is ignored by every command but SET, `req_data` by every command but LDB (R60, R72). -/
def Obligations.UnusedOperandPortsAreIgnored : Prop :=
  ∀ (ht : HeaderType) (c : BitVec 8) (v v' : Word) (d d' : List Byte),
    (c.toNat / 32 = 5 → v = v') → (c.toNat / 32 = 2 → d = d') →
    decode ht ⟨c, v, d⟩ = decode ht ⟨c, v', d'⟩

/-- The per-command statements reach a run through this one (R60, R100). That a step takes the first entry of the port's list is the model's choice (log entries 2 and 12). -/
def Obligations.StepPerformsThePresentedCommand : Prop :=
  ∀ (s : State) (c : PortCycle) (rest : List PortCycle) (i : Instr),
    s.port = c :: rest → c.rst = false → c.valid = true → decode s.ht c.req = .ok i →
    step s = exec i { s with port := rest }

/-- Idle is `req_valid = 0` (R72); that the port is idle past the end of its list is the model's choice (log entry 2). -/
def Obligations.IdleCyclesChangeNothing : Prop :=
  ∀ (s : State),
    (s.port = [] → step s = .next { s with rsp := none }) ∧
    ∀ (c : PortCycle) (rest : List PortCycle), s.port = c :: rest → c.rst = false → c.valid = false →
      step s = .next { s with port := rest, rsp := none }

/-- Reset and a command in the same cycle (R221). That the cycle is taken from the port's list is the model's choice (log entry 2). -/
def Obligations.ResetWinsOverACommand : Prop :=
  ∀ (s : State) (c : PortCycle) (rest : List PortCycle), s.port = c :: rest → c.rst = true →
    step s = .next { s with container := Container.zero s.ht, port := rest, rsp := none } ∧
    (Container.zero s.ht).ht = s.ht ∧ (Container.zero s.ht).words = List.replicate s.ht.numWords 0 ∧
    (∀ (c' : PortCycle) (rest' : List PortCycle), rest = c' :: rest' → c'.rst = true →
      ∃ p, trace 2 s = some (p, { s with container := Container.zero s.ht, port := rest', rsp := none })
        ∧ p = [none, none]) ∧
    (∀ (c' : PortCycle) (rest' : List PortCycle) (i : Instr), rest = c' :: rest' → c'.rst = false →
      c'.valid = true → decode s.ht c'.req = .ok i →
      (match step s with | .next t => some (step t) | _ => none) =
        some (exec i { s with container := Container.zero s.ht, port := rest', rsp := none }))

/-- The event Reset has the all-zero state as its result, whatever the state before (R220). -/
def Obligations.ResetLeavesTheZeroContainer : Prop :=
  ∀ (s t : State) (c : PortCycle) (rest : List PortCycle), s.port = c :: rest → c.rst = true →
    step s = .next t →
    t.W = List.replicate s.ht.numWords 0 ∧ t.ht = s.ht ∧
    (∀ (fid : Nat) (v : Word) (d : List Byte) (i : Instr), decode s.ht ⟨getCmd fid, v, d⟩ = .ok i →
      i.op = 0b100#3 → exec i t = .next { t with rsp := some ⟨false, some 0, none⟩ }) ∧
    exec .stb t = .next { t with rsp := some ⟨false, none, some (List.replicate s.ht.numBytes 0)⟩ } ∧
    (∃ u, exec .clr s = .next u ∧ u.W = t.W)

/-- The invariant holds at reset (R20, R31). That State.reset is the IPv4 instance is the model's choice (log entry 1). -/
def Obligations.ResetStateMeetsTheInvariant : Prop :=
  (∀ ht : HeaderType, (State.resetOf ht).wf ∧ (State.resetOf ht).ht = ht ∧ (State.resetOf ht).W = List.replicate ht.numWords 0 ∧
    (State.resetOf ht).rsp = none) ∧ State.reset.wf

/-- The container never grows or shrinks, and every response has the form of R66 (R20, R66). -/
def Obligations.EveryStepKeepsTheInvariant : Prop :=
  ∀ s t : State, s.wf → step s = .next t →
    t.wf ∧ t.ht = s.ht ∧ t.W.length = s.ht.numWords

/-- HT never changes at run time (R3, R25), and a command finds nothing but the words an earlier one left (R20, R24, R29). The clause about the port is the model's choice: the cycles to come are a list in State, one cycle of it is taken per step, and an empty list stays empty (log entries 2 and 12). -/
def Obligations.HeaderTypeStaysAndCommandsSeeTheWordsOnly : Prop :=
  (∀ s t : State, step s = .next t →
      t.ht = s.ht ∧ (s.port = [] → t.port = []) ∧
      ∀ (c : PortCycle) (rest : List PortCycle), s.port = c :: rest → t.port = rest) ∧
    ∀ (i : Instr) (s t s' : State), exec i s = .next t → s'.container = s.container →
      exec i s' = .next { s' with container := t.container, rsp := t.rsp }

/-- Every command completes; none blocks (R100, R231). -/
def Obligations.EveryWellFormedCommandCompletes : Prop :=
  ∀ (s : State) (i : Instr), i.wf s.ht = true →
    ∃ t r, exec i s = .next t ∧ t.rsp = some r ∧ r.wf s.ht = true ∧ t.ht = s.ht ∧ t.port = s.port

/-- A claim about a command stream holds for streams free of reserved encodings (R67, R224). That a run goes on past the end of the port's list, idle, and that the port then is the list without its first n cycles, is the model's choice (log entry 2), and so is that one step is one cycle (log entry 12). -/
def Obligations.LegalStreamsNeverStop : Prop :=
  ∀ (n : Nat) (s : State), s.wf → s.legalStream →
    ∃ p t, trace n s = some (p, t) ∧ p.length = n ∧ t.wf ∧ t.port = s.port.drop n

/-- The model's name for a command that the instance does not have (log entry 8; R64). -/
def Obligations.OtherInstancesFieldsAreRefused : Prop :=
  ∀ (s : State) (i : Instr) (h : HeaderType), i.header = some h → h ≠ s.ht →
    exec i s = .refused .otherInstance ∧ ∀ r : Request, decode s.ht r ≠ .ok i

/-- CLR, zero-initialise (R101). -/
def Obligations.ClrZeroesTheContainer : Prop :=
  ∀ (s : State),
    (∀ (v : Word) (d : List Byte), decode s.ht ⟨0x20#8, v, d⟩ = .ok .clr) ∧
    (let t : State := { s with container := Container.zero s.ht, rsp := some ⟨false, none, none⟩ }
     t.ht = s.ht ∧ t.W = List.replicate s.ht.numWords 0 ∧ exec .clr s = .next t ∧ exec .clr t = .next t ∧
     (∀ i : Instr, i.wf s.ht = true → i.op = 0b100#3 →
       exec i t = .next { t with rsp := some ⟨false, some 0, none⟩ }) ∧
     exec .stb t = .next { t with rsp := some ⟨false, none, some (List.replicate s.ht.numBytes 0)⟩ }) ∧
    (s.ht = .ipv4 →
      s.W = [0x42000000#32, 0x00BB00AA#32, 0xFE001234#32, 0xA0B1C2D3#32, 0, 0] →
      ∃ t, exec .clr s = .next t ∧ t.W = [0, 0, 0, 0, 0, 0])

/-- LDB, load from a byte buffer (R102); the refusal of another length is D18. -/
def Obligations.LdbLoadsTheBuffer : Prop :=
  ∀ (s : State) (b : List Byte),
    (b.length = s.ht.numBytes →
      (∀ v : Word, decode s.ht ⟨0x40#8, v, b⟩ = .ok (.ldb b)) ∧
      ∃ c : Container, exec (.ldb b) s = .next { s with container := c, rsp := some ⟨false, none, none⟩ } ∧
        c.ht = s.ht ∧
        (∀ i, i < s.ht.numWords → ∃ b0 b1 b2 b3 : Byte,
          b[4 * i]? = some b0 ∧ b[4 * i + 1]? = some b1 ∧ b[4 * i + 2]? = some b2 ∧
          b[4 * i + 3]? = some b3 ∧ c.words[i]? = some (b0 ++ b1 ++ b2 ++ b3)) ∧
        s.memWrite 0 s.ht.numBytes (bigEndian b) = some { s with container := c }) ∧
    (b.length ≠ s.ht.numBytes →
      exec (.ldb b) s = .refused .bufferSize ∧
      ∀ v : Word, decode s.ht ⟨0x40#8, v, b⟩ = .error .bufferSize)

/-- STB, serialise the raw bytes (R103). -/
def Obligations.StbReturnsTheBuffer : Prop :=
  ∀ (s : State),
    (∀ (v : Word) (d : List Byte), decode s.ht ⟨0x60#8, v, d⟩ = .ok .stb) ∧
    (∃ b : List Byte, exec .stb s = .next { s with rsp := some ⟨false, none, some b⟩ } ∧
      b.length = s.ht.numBytes ∧
      (∀ a, a < s.ht.numBytes → ∃ w, s.W[a / 4]? = some w ∧
        b[a]? = some (((w >>> (24 - 8 * (a % 4))) &&& 0xFF#32).setWidth 8)) ∧
      s.memRead 0 s.ht.numBytes = some (bigEndian b) ∧
      (∃ t, exec (.ldb b) s = .next t ∧ t.W = s.W)) ∧
    ∀ b : List Byte, b.length = s.ht.numBytes →
      ∃ t, exec (.ldb b) s = .next t ∧ answer .stb t = some ⟨false, none, some b⟩

/-- GET of the 22 IPV4 fields, each by the pseudocode of its rule (R121 to R142); the equation is the frame: words, header type and port as before. -/
def Obligations.GetIpv4FieldsAnswerTheirBits : Prop :=
  ∀ (s : State) (w0 w1 w2 w3 w4 w5 : Word), s.container = .ipv4 w0 w1 w2 w3 w4 w5 →
    exec .getIpv4Version s =
      .next { s with rsp := some ⟨false, some ((w0 >>> 28) &&& 0x0000000F#32), none⟩ } ∧
    exec .getIpv4Ihl s =
      .next { s with rsp := some ⟨false, some ((w0 >>> 24) &&& 0x0000000F#32), none⟩ } ∧
    exec .getIpv4Tos s =
      .next { s with rsp := some ⟨false, some ((w0 >>> 16) &&& 0x000000FF#32), none⟩ } ∧
    exec .getIpv4Precedence s =
      .next { s with rsp := some ⟨false, some ((w0 >>> 21) &&& 0x00000007#32), none⟩ } ∧
    exec .getIpv4Delay s =
      .next { s with rsp := some ⟨false, some ((w0 >>> 20) &&& 0x00000001#32), none⟩ } ∧
    exec .getIpv4Throughput s =
      .next { s with rsp := some ⟨false, some ((w0 >>> 19) &&& 0x00000001#32), none⟩ } ∧
    exec .getIpv4Reliability s =
      .next { s with rsp := some ⟨false, some ((w0 >>> 18) &&& 0x00000001#32), none⟩ } ∧
    exec .getIpv4TosRsvd s =
      .next { s with rsp := some ⟨false, some ((w0 >>> 16) &&& 0x00000003#32), none⟩ } ∧
    exec .getIpv4TotalLength s =
      .next { s with rsp := some ⟨false, some (w0 &&& 0x0000FFFF#32), none⟩ } ∧
    exec .getIpv4Identification s =
      .next { s with rsp := some ⟨false, some ((w1 >>> 16) &&& 0x0000FFFF#32), none⟩ } ∧
    exec .getIpv4Flags s =
      .next { s with rsp := some ⟨false, some ((w1 >>> 13) &&& 0x00000007#32), none⟩ } ∧
    exec .getIpv4FlagsRsvd s =
      .next { s with rsp := some ⟨false, some ((w1 >>> 15) &&& 0x00000001#32), none⟩ } ∧
    exec .getIpv4Df s =
      .next { s with rsp := some ⟨false, some ((w1 >>> 14) &&& 0x00000001#32), none⟩ } ∧
    exec .getIpv4Mf s =
      .next { s with rsp := some ⟨false, some ((w1 >>> 13) &&& 0x00000001#32), none⟩ } ∧
    exec .getIpv4FragmentOffset s =
      .next { s with rsp := some ⟨false, some (w1 &&& 0x00001FFF#32), none⟩ } ∧
    exec .getIpv4Ttl s =
      .next { s with rsp := some ⟨false, some ((w2 >>> 24) &&& 0x000000FF#32), none⟩ } ∧
    exec .getIpv4Protocol s =
      .next { s with rsp := some ⟨false, some ((w2 >>> 16) &&& 0x000000FF#32), none⟩ } ∧
    exec .getIpv4HeaderChecksum s =
      .next { s with rsp := some ⟨false, some (w2 &&& 0x0000FFFF#32), none⟩ } ∧
    exec .getIpv4SourceAddress s =
      .next { s with rsp := some ⟨false, some (w3), none⟩ } ∧
    exec .getIpv4DestinationAddress s =
      .next { s with rsp := some ⟨false, some (w4), none⟩ } ∧
    exec .getIpv4Options s =
      .next { s with rsp := some ⟨false, some ((w5 >>> 8) &&& 0x00FFFFFF#32), none⟩ } ∧
    exec .getIpv4Padding s =
      .next { s with rsp := some ⟨false, some (w5 &&& 0x000000FF#32), none⟩ }

/-- SET of the 22 IPV4 fields with a fitting value, each by the pseudocode of its rule (R121 to R142). -/
def Obligations.SetIpv4FieldsWriteTheirBits : Prop :=
  ∀ (s : State) (w0 w1 w2 w3 w4 w5 v : Word), s.container = .ipv4 w0 w1 w2 w3 w4 w5 →
    (v.toNat ≤ 15 → exec (.setIpv4Version v) s =
      .next { s with container := .ipv4 ((w0 &&& 0x0FFFFFFF#32) ||| (v <<< 28)) w1 w2 w3 w4 w5, rsp := some ⟨false, none, none⟩ }) ∧
    (v.toNat ≤ 15 → exec (.setIpv4Ihl v) s =
      .next { s with container := .ipv4 ((w0 &&& 0xF0FFFFFF#32) ||| (v <<< 24)) w1 w2 w3 w4 w5, rsp := some ⟨false, none, none⟩ }) ∧
    (v.toNat ≤ 255 → exec (.setIpv4Tos v) s =
      .next { s with container := .ipv4 ((w0 &&& 0xFF00FFFF#32) ||| (v <<< 16)) w1 w2 w3 w4 w5, rsp := some ⟨false, none, none⟩ }) ∧
    (v.toNat ≤ 7 → exec (.setIpv4Precedence v) s =
      .next { s with container := .ipv4 ((w0 &&& 0xFF1FFFFF#32) ||| (v <<< 21)) w1 w2 w3 w4 w5, rsp := some ⟨false, none, none⟩ }) ∧
    (v.toNat ≤ 1 → exec (.setIpv4Delay v) s =
      .next { s with container := .ipv4 ((w0 &&& 0xFFEFFFFF#32) ||| (v <<< 20)) w1 w2 w3 w4 w5, rsp := some ⟨false, none, none⟩ }) ∧
    (v.toNat ≤ 1 → exec (.setIpv4Throughput v) s =
      .next { s with container := .ipv4 ((w0 &&& 0xFFF7FFFF#32) ||| (v <<< 19)) w1 w2 w3 w4 w5, rsp := some ⟨false, none, none⟩ }) ∧
    (v.toNat ≤ 1 → exec (.setIpv4Reliability v) s =
      .next { s with container := .ipv4 ((w0 &&& 0xFFFBFFFF#32) ||| (v <<< 18)) w1 w2 w3 w4 w5, rsp := some ⟨false, none, none⟩ }) ∧
    (v.toNat ≤ 3 → exec (.setIpv4TosRsvd v) s =
      .next { s with container := .ipv4 ((w0 &&& 0xFFFCFFFF#32) ||| (v <<< 16)) w1 w2 w3 w4 w5, rsp := some ⟨false, none, none⟩ }) ∧
    (v.toNat ≤ 65535 → exec (.setIpv4TotalLength v) s =
      .next { s with container := .ipv4 ((w0 &&& 0xFFFF0000#32) ||| v) w1 w2 w3 w4 w5, rsp := some ⟨false, none, none⟩ }) ∧
    (v.toNat ≤ 65535 → exec (.setIpv4Identification v) s =
      .next { s with container := .ipv4 w0 ((w1 &&& 0x0000FFFF#32) ||| (v <<< 16)) w2 w3 w4 w5, rsp := some ⟨false, none, none⟩ }) ∧
    (v.toNat ≤ 7 → exec (.setIpv4Flags v) s =
      .next { s with container := .ipv4 w0 ((w1 &&& 0xFFFF1FFF#32) ||| (v <<< 13)) w2 w3 w4 w5, rsp := some ⟨false, none, none⟩ }) ∧
    (v.toNat ≤ 1 → exec (.setIpv4FlagsRsvd v) s =
      .next { s with container := .ipv4 w0 ((w1 &&& 0xFFFF7FFF#32) ||| (v <<< 15)) w2 w3 w4 w5, rsp := some ⟨false, none, none⟩ }) ∧
    (v.toNat ≤ 1 → exec (.setIpv4Df v) s =
      .next { s with container := .ipv4 w0 ((w1 &&& 0xFFFFBFFF#32) ||| (v <<< 14)) w2 w3 w4 w5, rsp := some ⟨false, none, none⟩ }) ∧
    (v.toNat ≤ 1 → exec (.setIpv4Mf v) s =
      .next { s with container := .ipv4 w0 ((w1 &&& 0xFFFFDFFF#32) ||| (v <<< 13)) w2 w3 w4 w5, rsp := some ⟨false, none, none⟩ }) ∧
    (v.toNat ≤ 8191 → exec (.setIpv4FragmentOffset v) s =
      .next { s with container := .ipv4 w0 ((w1 &&& 0xFFFFE000#32) ||| v) w2 w3 w4 w5, rsp := some ⟨false, none, none⟩ }) ∧
    (v.toNat ≤ 255 → exec (.setIpv4Ttl v) s =
      .next { s with container := .ipv4 w0 w1 ((w2 &&& 0x00FFFFFF#32) ||| (v <<< 24)) w3 w4 w5, rsp := some ⟨false, none, none⟩ }) ∧
    (v.toNat ≤ 255 → exec (.setIpv4Protocol v) s =
      .next { s with container := .ipv4 w0 w1 ((w2 &&& 0xFF00FFFF#32) ||| (v <<< 16)) w3 w4 w5, rsp := some ⟨false, none, none⟩ }) ∧
    (v.toNat ≤ 65535 → exec (.setIpv4HeaderChecksum v) s =
      .next { s with container := .ipv4 w0 w1 ((w2 &&& 0xFFFF0000#32) ||| v) w3 w4 w5, rsp := some ⟨false, none, none⟩ }) ∧
    (exec (.setIpv4SourceAddress v) s =
      .next { s with container := .ipv4 w0 w1 w2 v w4 w5, rsp := some ⟨false, none, none⟩ }) ∧
    (exec (.setIpv4DestinationAddress v) s =
      .next { s with container := .ipv4 w0 w1 w2 w3 v w5, rsp := some ⟨false, none, none⟩ }) ∧
    (v.toNat ≤ 16777215 → exec (.setIpv4Options v) s =
      .next { s with container := .ipv4 w0 w1 w2 w3 w4 ((w5 &&& 0x000000FF#32) ||| (v <<< 8)), rsp := some ⟨false, none, none⟩ }) ∧
    (v.toNat ≤ 255 → exec (.setIpv4Padding v) s =
      .next { s with container := .ipv4 w0 w1 w2 w3 w4 ((w5 &&& 0xFFFFFF00#32) ||| v), rsp := some ⟨false, none, none⟩ })

/-- SET of the IPV4 fields with a value that does not fit: OutOfRange, no word written (R121 to R142, R200, R206). -/
def Obligations.SetIpv4FieldsRejectTooLargeValues : Prop :=
  ∀ (s : State) (w0 w1 w2 w3 w4 w5 v : Word), s.container = .ipv4 w0 w1 w2 w3 w4 w5 →
    (15 < v.toNat → exec (.setIpv4Version v) s =
      .next { s with rsp := some ⟨true, none, none⟩ }) ∧
    (15 < v.toNat → exec (.setIpv4Ihl v) s =
      .next { s with rsp := some ⟨true, none, none⟩ }) ∧
    (255 < v.toNat → exec (.setIpv4Tos v) s =
      .next { s with rsp := some ⟨true, none, none⟩ }) ∧
    (7 < v.toNat → exec (.setIpv4Precedence v) s =
      .next { s with rsp := some ⟨true, none, none⟩ }) ∧
    (1 < v.toNat → exec (.setIpv4Delay v) s =
      .next { s with rsp := some ⟨true, none, none⟩ }) ∧
    (1 < v.toNat → exec (.setIpv4Throughput v) s =
      .next { s with rsp := some ⟨true, none, none⟩ }) ∧
    (1 < v.toNat → exec (.setIpv4Reliability v) s =
      .next { s with rsp := some ⟨true, none, none⟩ }) ∧
    (3 < v.toNat → exec (.setIpv4TosRsvd v) s =
      .next { s with rsp := some ⟨true, none, none⟩ }) ∧
    (65535 < v.toNat → exec (.setIpv4TotalLength v) s =
      .next { s with rsp := some ⟨true, none, none⟩ }) ∧
    (65535 < v.toNat → exec (.setIpv4Identification v) s =
      .next { s with rsp := some ⟨true, none, none⟩ }) ∧
    (7 < v.toNat → exec (.setIpv4Flags v) s =
      .next { s with rsp := some ⟨true, none, none⟩ }) ∧
    (1 < v.toNat → exec (.setIpv4FlagsRsvd v) s =
      .next { s with rsp := some ⟨true, none, none⟩ }) ∧
    (1 < v.toNat → exec (.setIpv4Df v) s =
      .next { s with rsp := some ⟨true, none, none⟩ }) ∧
    (1 < v.toNat → exec (.setIpv4Mf v) s =
      .next { s with rsp := some ⟨true, none, none⟩ }) ∧
    (8191 < v.toNat → exec (.setIpv4FragmentOffset v) s =
      .next { s with rsp := some ⟨true, none, none⟩ }) ∧
    (255 < v.toNat → exec (.setIpv4Ttl v) s =
      .next { s with rsp := some ⟨true, none, none⟩ }) ∧
    (255 < v.toNat → exec (.setIpv4Protocol v) s =
      .next { s with rsp := some ⟨true, none, none⟩ }) ∧
    (65535 < v.toNat → exec (.setIpv4HeaderChecksum v) s =
      .next { s with rsp := some ⟨true, none, none⟩ }) ∧
    (16777215 < v.toNat → exec (.setIpv4Options v) s =
      .next { s with rsp := some ⟨true, none, none⟩ }) ∧
    (255 < v.toNat → exec (.setIpv4Padding v) s =
      .next { s with rsp := some ⟨true, none, none⟩ })

/-- GET of the 4 UDP fields, each by the pseudocode of its rule (R151 to R154); the equation is the frame: words, header type and port as before. -/
def Obligations.GetUdpFieldsAnswerTheirBits : Prop :=
  ∀ (s : State) (w0 w1 : Word), s.container = .udp w0 w1 →
    exec .getUdpSourcePort s =
      .next { s with rsp := some ⟨false, some ((w0 >>> 16) &&& 0x0000FFFF#32), none⟩ } ∧
    exec .getUdpDestinationPort s =
      .next { s with rsp := some ⟨false, some (w0 &&& 0x0000FFFF#32), none⟩ } ∧
    exec .getUdpLength s =
      .next { s with rsp := some ⟨false, some ((w1 >>> 16) &&& 0x0000FFFF#32), none⟩ } ∧
    exec .getUdpChecksum s =
      .next { s with rsp := some ⟨false, some (w1 &&& 0x0000FFFF#32), none⟩ }

/-- SET of the 4 UDP fields with a fitting value, each by the pseudocode of its rule (R151 to R154). -/
def Obligations.SetUdpFieldsWriteTheirBits : Prop :=
  ∀ (s : State) (w0 w1 v : Word), s.container = .udp w0 w1 →
    (v.toNat ≤ 65535 → exec (.setUdpSourcePort v) s =
      .next { s with container := .udp ((w0 &&& 0x0000FFFF#32) ||| (v <<< 16)) w1, rsp := some ⟨false, none, none⟩ }) ∧
    (v.toNat ≤ 65535 → exec (.setUdpDestinationPort v) s =
      .next { s with container := .udp ((w0 &&& 0xFFFF0000#32) ||| v) w1, rsp := some ⟨false, none, none⟩ }) ∧
    (v.toNat ≤ 65535 → exec (.setUdpLength v) s =
      .next { s with container := .udp w0 ((w1 &&& 0x0000FFFF#32) ||| (v <<< 16)), rsp := some ⟨false, none, none⟩ }) ∧
    (v.toNat ≤ 65535 → exec (.setUdpChecksum v) s =
      .next { s with container := .udp w0 ((w1 &&& 0xFFFF0000#32) ||| v), rsp := some ⟨false, none, none⟩ })

/-- SET of the UDP fields with a value that does not fit: OutOfRange, no word written (R151 to R154, R200, R206). -/
def Obligations.SetUdpFieldsRejectTooLargeValues : Prop :=
  ∀ (s : State) (w0 w1 v : Word), s.container = .udp w0 w1 →
    (65535 < v.toNat → exec (.setUdpSourcePort v) s =
      .next { s with rsp := some ⟨true, none, none⟩ }) ∧
    (65535 < v.toNat → exec (.setUdpDestinationPort v) s =
      .next { s with rsp := some ⟨true, none, none⟩ }) ∧
    (65535 < v.toNat → exec (.setUdpLength v) s =
      .next { s with rsp := some ⟨true, none, none⟩ }) ∧
    (65535 < v.toNat → exec (.setUdpChecksum v) s =
      .next { s with rsp := some ⟨true, none, none⟩ })

/-- GET of the 17 TCP fields, each by the pseudocode of its rule (R161 to R177); the equation is the frame: words, header type and port as before. -/
def Obligations.GetTcpFieldsAnswerTheirBits : Prop :=
  ∀ (s : State) (w0 w1 w2 w3 w4 : Word), s.container = .tcp w0 w1 w2 w3 w4 →
    exec .getTcpSourcePort s =
      .next { s with rsp := some ⟨false, some ((w0 >>> 16) &&& 0x0000FFFF#32), none⟩ } ∧
    exec .getTcpDestinationPort s =
      .next { s with rsp := some ⟨false, some (w0 &&& 0x0000FFFF#32), none⟩ } ∧
    exec .getTcpSequenceNumber s =
      .next { s with rsp := some ⟨false, some (w1), none⟩ } ∧
    exec .getTcpAcknowledgmentNumber s =
      .next { s with rsp := some ⟨false, some (w2), none⟩ } ∧
    exec .getTcpDataOffset s =
      .next { s with rsp := some ⟨false, some ((w3 >>> 28) &&& 0x0000000F#32), none⟩ } ∧
    exec .getTcpReserved s =
      .next { s with rsp := some ⟨false, some ((w3 >>> 24) &&& 0x0000000F#32), none⟩ } ∧
    exec .getTcpCwr s =
      .next { s with rsp := some ⟨false, some ((w3 >>> 23) &&& 0x00000001#32), none⟩ } ∧
    exec .getTcpEce s =
      .next { s with rsp := some ⟨false, some ((w3 >>> 22) &&& 0x00000001#32), none⟩ } ∧
    exec .getTcpUrg s =
      .next { s with rsp := some ⟨false, some ((w3 >>> 21) &&& 0x00000001#32), none⟩ } ∧
    exec .getTcpAck s =
      .next { s with rsp := some ⟨false, some ((w3 >>> 20) &&& 0x00000001#32), none⟩ } ∧
    exec .getTcpPsh s =
      .next { s with rsp := some ⟨false, some ((w3 >>> 19) &&& 0x00000001#32), none⟩ } ∧
    exec .getTcpRst s =
      .next { s with rsp := some ⟨false, some ((w3 >>> 18) &&& 0x00000001#32), none⟩ } ∧
    exec .getTcpSyn s =
      .next { s with rsp := some ⟨false, some ((w3 >>> 17) &&& 0x00000001#32), none⟩ } ∧
    exec .getTcpFin s =
      .next { s with rsp := some ⟨false, some ((w3 >>> 16) &&& 0x00000001#32), none⟩ } ∧
    exec .getTcpWindow s =
      .next { s with rsp := some ⟨false, some (w3 &&& 0x0000FFFF#32), none⟩ } ∧
    exec .getTcpChecksum s =
      .next { s with rsp := some ⟨false, some ((w4 >>> 16) &&& 0x0000FFFF#32), none⟩ } ∧
    exec .getTcpUrgentPointer s =
      .next { s with rsp := some ⟨false, some (w4 &&& 0x0000FFFF#32), none⟩ }

/-- SET of the 17 TCP fields with a fitting value, each by the pseudocode of its rule (R161 to R177). -/
def Obligations.SetTcpFieldsWriteTheirBits : Prop :=
  ∀ (s : State) (w0 w1 w2 w3 w4 v : Word), s.container = .tcp w0 w1 w2 w3 w4 →
    (v.toNat ≤ 65535 → exec (.setTcpSourcePort v) s =
      .next { s with container := .tcp ((w0 &&& 0x0000FFFF#32) ||| (v <<< 16)) w1 w2 w3 w4, rsp := some ⟨false, none, none⟩ }) ∧
    (v.toNat ≤ 65535 → exec (.setTcpDestinationPort v) s =
      .next { s with container := .tcp ((w0 &&& 0xFFFF0000#32) ||| v) w1 w2 w3 w4, rsp := some ⟨false, none, none⟩ }) ∧
    (exec (.setTcpSequenceNumber v) s =
      .next { s with container := .tcp w0 v w2 w3 w4, rsp := some ⟨false, none, none⟩ }) ∧
    (exec (.setTcpAcknowledgmentNumber v) s =
      .next { s with container := .tcp w0 w1 v w3 w4, rsp := some ⟨false, none, none⟩ }) ∧
    (v.toNat ≤ 15 → exec (.setTcpDataOffset v) s =
      .next { s with container := .tcp w0 w1 w2 ((w3 &&& 0x0FFFFFFF#32) ||| (v <<< 28)) w4, rsp := some ⟨false, none, none⟩ }) ∧
    (v.toNat ≤ 15 → exec (.setTcpReserved v) s =
      .next { s with container := .tcp w0 w1 w2 ((w3 &&& 0xF0FFFFFF#32) ||| (v <<< 24)) w4, rsp := some ⟨false, none, none⟩ }) ∧
    (v.toNat ≤ 1 → exec (.setTcpCwr v) s =
      .next { s with container := .tcp w0 w1 w2 ((w3 &&& 0xFF7FFFFF#32) ||| (v <<< 23)) w4, rsp := some ⟨false, none, none⟩ }) ∧
    (v.toNat ≤ 1 → exec (.setTcpEce v) s =
      .next { s with container := .tcp w0 w1 w2 ((w3 &&& 0xFFBFFFFF#32) ||| (v <<< 22)) w4, rsp := some ⟨false, none, none⟩ }) ∧
    (v.toNat ≤ 1 → exec (.setTcpUrg v) s =
      .next { s with container := .tcp w0 w1 w2 ((w3 &&& 0xFFDFFFFF#32) ||| (v <<< 21)) w4, rsp := some ⟨false, none, none⟩ }) ∧
    (v.toNat ≤ 1 → exec (.setTcpAck v) s =
      .next { s with container := .tcp w0 w1 w2 ((w3 &&& 0xFFEFFFFF#32) ||| (v <<< 20)) w4, rsp := some ⟨false, none, none⟩ }) ∧
    (v.toNat ≤ 1 → exec (.setTcpPsh v) s =
      .next { s with container := .tcp w0 w1 w2 ((w3 &&& 0xFFF7FFFF#32) ||| (v <<< 19)) w4, rsp := some ⟨false, none, none⟩ }) ∧
    (v.toNat ≤ 1 → exec (.setTcpRst v) s =
      .next { s with container := .tcp w0 w1 w2 ((w3 &&& 0xFFFBFFFF#32) ||| (v <<< 18)) w4, rsp := some ⟨false, none, none⟩ }) ∧
    (v.toNat ≤ 1 → exec (.setTcpSyn v) s =
      .next { s with container := .tcp w0 w1 w2 ((w3 &&& 0xFFFDFFFF#32) ||| (v <<< 17)) w4, rsp := some ⟨false, none, none⟩ }) ∧
    (v.toNat ≤ 1 → exec (.setTcpFin v) s =
      .next { s with container := .tcp w0 w1 w2 ((w3 &&& 0xFFFEFFFF#32) ||| (v <<< 16)) w4, rsp := some ⟨false, none, none⟩ }) ∧
    (v.toNat ≤ 65535 → exec (.setTcpWindow v) s =
      .next { s with container := .tcp w0 w1 w2 ((w3 &&& 0xFFFF0000#32) ||| v) w4, rsp := some ⟨false, none, none⟩ }) ∧
    (v.toNat ≤ 65535 → exec (.setTcpChecksum v) s =
      .next { s with container := .tcp w0 w1 w2 w3 ((w4 &&& 0x0000FFFF#32) ||| (v <<< 16)), rsp := some ⟨false, none, none⟩ }) ∧
    (v.toNat ≤ 65535 → exec (.setTcpUrgentPointer v) s =
      .next { s with container := .tcp w0 w1 w2 w3 ((w4 &&& 0xFFFF0000#32) ||| v), rsp := some ⟨false, none, none⟩ })

/-- SET of the TCP fields with a value that does not fit: OutOfRange, no word written (R161 to R177, R200, R206). -/
def Obligations.SetTcpFieldsRejectTooLargeValues : Prop :=
  ∀ (s : State) (w0 w1 w2 w3 w4 v : Word), s.container = .tcp w0 w1 w2 w3 w4 →
    (65535 < v.toNat → exec (.setTcpSourcePort v) s =
      .next { s with rsp := some ⟨true, none, none⟩ }) ∧
    (65535 < v.toNat → exec (.setTcpDestinationPort v) s =
      .next { s with rsp := some ⟨true, none, none⟩ }) ∧
    (15 < v.toNat → exec (.setTcpDataOffset v) s =
      .next { s with rsp := some ⟨true, none, none⟩ }) ∧
    (15 < v.toNat → exec (.setTcpReserved v) s =
      .next { s with rsp := some ⟨true, none, none⟩ }) ∧
    (1 < v.toNat → exec (.setTcpCwr v) s =
      .next { s with rsp := some ⟨true, none, none⟩ }) ∧
    (1 < v.toNat → exec (.setTcpEce v) s =
      .next { s with rsp := some ⟨true, none, none⟩ }) ∧
    (1 < v.toNat → exec (.setTcpUrg v) s =
      .next { s with rsp := some ⟨true, none, none⟩ }) ∧
    (1 < v.toNat → exec (.setTcpAck v) s =
      .next { s with rsp := some ⟨true, none, none⟩ }) ∧
    (1 < v.toNat → exec (.setTcpPsh v) s =
      .next { s with rsp := some ⟨true, none, none⟩ }) ∧
    (1 < v.toNat → exec (.setTcpRst v) s =
      .next { s with rsp := some ⟨true, none, none⟩ }) ∧
    (1 < v.toNat → exec (.setTcpSyn v) s =
      .next { s with rsp := some ⟨true, none, none⟩ }) ∧
    (1 < v.toNat → exec (.setTcpFin v) s =
      .next { s with rsp := some ⟨true, none, none⟩ }) ∧
    (65535 < v.toNat → exec (.setTcpWindow v) s =
      .next { s with rsp := some ⟨true, none, none⟩ }) ∧
    (65535 < v.toNat → exec (.setTcpChecksum v) s =
      .next { s with rsp := some ⟨true, none, none⟩ }) ∧
    (65535 < v.toNat → exec (.setTcpUrgentPointer v) s =
      .next { s with rsp := some ⟨true, none, none⟩ })

/-- GET over the descriptor table (R26, R64, R83, R104). -/
def Obligations.GetReadsTheBitsOfItsRow : Prop :=
  ∀ (ht : HeaderType) (fid : Nat) (row : FieldRow) (v : Word) (d : List Byte),
    (fields ht)[fid]? = some row →
    ∃ i, decode ht ⟨getCmd fid, v, d⟩ = .ok i ∧
      ∀ (s : State) (word : Word), s.ht = ht → s.W[row.desc.widx]? = some word →
        ∃ x : Word, exec i s = .next { s with rsp := some ⟨false, some x, none⟩ } ∧
          extract word row.desc.off row.desc.w = some x ∧
          x = (word >>> (32 - row.desc.w - row.desc.off)) &&& BitVec.ofNat 32 (2 ^ row.desc.w - 1) ∧
          x.toNat < 2 ^ row.desc.w ∧ (row.desc.w = 32 → x = word)

/-- SET over the descriptor table, bit by bit (R42, R84, R105). -/
def Obligations.SetWritesTheBitsOfItsRow : Prop :=
  ∀ (ht : HeaderType) (fid : Nat) (row : FieldRow) (v : Word) (d : List Byte),
    (fields ht)[fid]? = some row → v.toNat < 2 ^ row.desc.w →
    ∃ i, decode ht ⟨setCmd fid, v, d⟩ = .ok i ∧
      ∀ s : State, s.ht = ht →
        ∃ c : Container, exec i s = .next { s with container := c, rsp := some ⟨false, none, none⟩ } ∧
          c.ht = ht ∧
          (∀ j, j < row.desc.w → c.words.streamBit (32 * row.desc.widx + row.desc.off + j) =
            some (v.getLsbD (row.desc.w - 1 - j))) ∧
          (∀ k, (k < 32 * row.desc.widx + row.desc.off ∨
              32 * row.desc.widx + row.desc.off + row.desc.w ≤ k) → c.words.streamBit k = s.W.streamBit k)

/-- Each set operation mutates exactly one storage word (R21, R46). -/
def Obligations.SetStoresOnlyToItsOwnWordsBytes : Prop :=
  ∀ (i : Instr) (row : FieldRow) (s t : State), i.op = 0b101#3 → fieldRow i = some row →
    exec i s = .next t →
    (∀ a, (a < 4 * row.desc.widx ∨ 4 * row.desc.widx + 4 ≤ a) → t.W.byteAt a = s.W.byteAt a) ∧
    (∀ k, k ≠ row.desc.widx → t.W[k]? = s.W[k]?) ∧
    t.ht = s.ht ∧ t.port = s.port ∧ t.W.length = s.W.length

/-- No command reads with a side effect (R47, R103, R104). -/
def Obligations.ReadsStoreNothing : Prop :=
  ∀ (i : Instr) (s t : State), (i.op = 0b100#3 ∨ i.op = 0b011#3) → exec i s = .next t →
    (∀ a, t.W.byteAt a = s.W.byteAt a) ∧ t.W = s.W ∧ t.ht = s.ht ∧ t.port = s.port ∧
    ∃ r, t.rsp = some r ∧ r.err = false

/-- No address has a side effect on read; writes are idempotent (R47). -/
def Obligations.CommandsAreIdempotent : Prop :=
  (∀ (i : Instr) (s t : State), exec i s = .next t → exec i t = .next t) ∧
    (∀ (i : Instr) (s : State), i.op = 0b100#3 ∨ i.op = 0b011#3 → i.wf s.ht = true →
      ∃ r, exec i s = .next { s with rsp := some r } ∧ r.err = false) ∧
    (∀ (i : Instr) (reads : List Instr) (s t u : State), i.op = 0b100#3 ∨ i.op = 0b011#3 →
      (∀ j ∈ reads, j.op = 0b100#3 ∨ j.op = 0b011#3) → exec i s = .next t → execAll reads t = some u →
      exec i u = .next t)

/-- Non-interference (R106). -/
def Obligations.SetNeverDisturbsAnotherLeafField : Prop :=
  (∀ (ht : HeaderType) (f g : Nat) (rf rg : FieldRow) (v : Word) (d : List Byte) (i j : Instr) (s t : State),
    (fields ht)[f]? = some rf → (fields ht)[g]? = some rg → s.ht = ht →
    decode ht ⟨setCmd f, v, d⟩ = .ok i → decode ht ⟨getCmd g, v, d⟩ = .ok j → exec i s = .next t →
    ((rf.isLeaf = true → rg.isLeaf = true → f ≠ g →
        ∃ x, answer j s = some ⟨false, some x, none⟩ ∧ answer j t = some ⟨false, some x, none⟩) ∧
      (t.rsp = some ⟨true, none, none⟩ →
        ∃ x, answer j s = some ⟨false, some x, none⟩ ∧ answer j t = some ⟨false, some x, none⟩))) ∧
    (∃ s t : State, s.wf ∧ exec (.setIpv4Precedence 7) s = .next t ∧
      answer .getIpv4Tos s ≠ answer .getIpv4Tos t)

/-- The order of writes to disjoint fields does not matter (R88 (c), R106, R143). -/
def Obligations.SetOrderOfDisjointFieldsDoesNotMatter : Prop :=
  ∀ (s : State) (i j : Instr) (ri rj : FieldRow), i.wf s.ht = true → j.wf s.ht = true →
    i.op = 0b101#3 → j.op = 0b101#3 → fieldRow i = some ri → fieldRow j = some rj →
    ri.desc.disjoint rj.desc = true →
    ∃ t u, execAll [i, j] s = some t ∧ execAll [j, i] s = some u ∧ t.W = u.W

/-- Round trip at container level (R107). -/
def Obligations.SetThenGetUntilOverwritten : Prop :=
  ∀ (ht : HeaderType) (fid : Nat) (row : FieldRow) (v : Word) (d : List Byte) (i j : Instr) (s : State),
    (fields ht)[fid]? = some row → v.toNat < 2 ^ row.desc.w → s.ht = ht →
    decode ht ⟨setCmd fid, v, d⟩ = .ok i → decode ht ⟨getCmd fid, v, d⟩ = .ok j →
    (∃ t, exec i (State.resetOf ht) = .next t ∧ answer j t = some ⟨false, some v, none⟩) ∧
    (∃ t, exec i s = .next t ∧ answer j t = some ⟨false, some v, none⟩) ∧
    ∀ (cmds : List Instr) (t : State), (∀ k ∈ cmds, writesBitsOf k row.desc = false) →
      execAll (i :: cmds) s = some t → answer j t = some ⟨false, some v, none⟩

/-- Rejection (R108). -/
def Obligations.TooLargeValuesAreRejected : Prop :=
  (∀ (ht : HeaderType) (fid : Nat) (row : FieldRow) (v : Word) (d : List Byte),
    (fields ht)[fid]? = some row →
    ∃ i, decode ht ⟨setCmd fid, v, d⟩ = .ok i ∧ ∀ s : State, s.ht = ht →
      (2 ^ row.desc.w - 1 < v.toNat → exec i s = .next { s with rsp := some ⟨true, none, none⟩ }) ∧
      (v.toNat ≤ 2 ^ row.desc.w - 1 →
        ∃ c : Container, c.ht = ht ∧
          exec i s = .next { s with container := c, rsp := some ⟨false, none, none⟩ })) ∧
    (∀ w : Nat, (∃ (ht : HeaderType) (fid : Nat) (row : FieldRow), (fields ht)[fid]? = some row ∧
      row.desc.w = w) ↔ w ∈ [1, 2, 3, 4, 8, 13, 16, 24, 32]) ∧
    [1, 2, 3, 4, 8, 13, 16, 24, 32].map (fun w => (2 ^ w - 1, 2 ^ w)) =
      [(1, 2), (3, 4), (7, 8), (15, 16), (255, 256), (8191, 8192), (65535, 65536),
        (16777215, 16777216), (4294967295, 4294967296)] ∧
    ∀ v : Word, v.toNat ≤ 4294967295

/-- The one error (R200). -/
def Obligations.OutOfRangeComesFromSetOnly : Prop :=
  (∀ (i : Instr) (s t : State), exec i s = .next t →
    ((∃ r, t.rsp = some r ∧ r.err = true) ↔
      (i.op = 0b101#3 ∧ ∃ row, fieldRow i = some row ∧ 2 ^ row.desc.w - 1 < i.valueOperand.toNat)) ∧
    (i.op ≠ 0b101#3 → ∃ r, t.rsp = some r ∧ r.err = false)) ∧
    (∀ (i : Instr) (s : State), i.wf s.ht = true → i.op ≠ 0b101#3 →
      ∃ t r, exec i s = .next t ∧ t.rsp = some r ∧ r.err = false) ∧
    (∀ (ht : HeaderType) (fid : Nat) (row : FieldRow), (fields ht)[fid]? = some row →
      (1 ≤ row.desc.w → row.desc.w ≤ 31 → ∃ v : Word, ∀ d : List Byte, ∃ i,
        decode ht ⟨setCmd fid, v, d⟩ = .ok i ∧
        answer i (State.resetOf ht) = some ⟨true, none, none⟩) ∧
      (row.desc.w = 32 → ∀ (v : Word) (d : List Byte), ∃ i, decode ht ⟨setCmd fid, v, d⟩ = .ok i ∧
        ∀ s : State, s.ht = ht → answer i s = some ⟨false, none, none⟩))

/-- Effect on state, and precision (R206). -/
def Obligations.FailedSetIsPrecise : Prop :=
  ∀ (before later : List Instr) (i : Instr) (s u : State), execAll (before ++ i :: later) s = some u →
    ∃ s1 t, execAll before s = some s1 ∧ exec i s1 = .next t ∧ execAll later t = some u ∧
      ((∃ r, t.rsp = some r ∧ r.err = true) →
        t = { s1 with rsp := some ⟨true, none, none⟩ } ∧ t.W = s1.W ∧
        ∀ k, t.W.streamBit k = s1.W.streamBit k)

/-- A failed SET has no residue; errors neither nest nor accumulate (R207, R208, R230). -/
def Obligations.FailedSetLeavesNoResidue : Prop :=
  ∀ (before later : List Instr) (i : Instr) (s s1 t : State), execAll before s = some s1 →
    exec i s1 = .next t → (∃ r, t.rsp = some r ∧ r.err = true) →
    (execAll (before ++ i :: later) s).map State.W = (execAll (before ++ later) s).map State.W ∧
    (later ≠ [] → execAll (before ++ i :: later) s = execAll (before ++ later) s) ∧
    exec i t = .next t

/-- Composite TOS (R112, R192). -/
def Obligations.TosIsItsMembersSideBySide : Prop :=
  ∀ (s : State) (v : Word), s.ht = .ipv4 →
    (answer .getIpv4Tos s = some ⟨false, some (s.field Ipv4.tos), none⟩ ∧
      (s.field Ipv4.tos).toNat = 2 ^ 5 * (s.field Ipv4.precedence).toNat +
        2 ^ 4 * (s.field Ipv4.delay).toNat +
        2 ^ 3 * (s.field Ipv4.throughput).toNat +
        2 ^ 2 * (s.field Ipv4.reliability).toNat +
        2 ^ 0 * (s.field Ipv4.tosRsvd).toNat) ∧
    (v.toNat < 256 → ∃ t u, exec (.setIpv4Tos v) s = .next t ∧
      execAll [.setIpv4Precedence ((v >>> 5) &&& 0x00000007#32), .setIpv4Delay ((v >>> 4) &&& 0x00000001#32), .setIpv4Throughput ((v >>> 3) &&& 0x00000001#32), .setIpv4Reliability ((v >>> 2) &&& 0x00000001#32), .setIpv4TosRsvd ((v >>> 0) &&& 0x00000003#32)] s = some u ∧
      t = u ∧ t.field Ipv4.precedence = (v >>> 5) &&& 0x00000007#32 ∧
        t.field Ipv4.delay = (v >>> 4) &&& 0x00000001#32 ∧
        t.field Ipv4.throughput = (v >>> 3) &&& 0x00000001#32 ∧
        t.field Ipv4.reliability = (v >>> 2) &&& 0x00000001#32 ∧
        t.field Ipv4.tosRsvd = (v >>> 0) &&& 0x00000003#32) ∧
      (v.toNat < 8 → ∃ t, exec (.setIpv4Precedence v) s = .next t ∧
        t.field Ipv4.tos = (s.field Ipv4.tos &&& ~~~(0x000000E0#32)) ||| (v <<< 5)) ∧
      (v.toNat < 2 → ∃ t, exec (.setIpv4Delay v) s = .next t ∧
        t.field Ipv4.tos = (s.field Ipv4.tos &&& ~~~(0x00000010#32)) ||| (v <<< 4)) ∧
      (v.toNat < 2 → ∃ t, exec (.setIpv4Throughput v) s = .next t ∧
        t.field Ipv4.tos = (s.field Ipv4.tos &&& ~~~(0x00000008#32)) ||| (v <<< 3)) ∧
      (v.toNat < 2 → ∃ t, exec (.setIpv4Reliability v) s = .next t ∧
        t.field Ipv4.tos = (s.field Ipv4.tos &&& ~~~(0x00000004#32)) ||| (v <<< 2)) ∧
      (v.toNat < 4 → ∃ t, exec (.setIpv4TosRsvd v) s = .next t ∧
        t.field Ipv4.tos = (s.field Ipv4.tos &&& ~~~(0x00000003#32)) ||| (v <<< 0))

/-- Composite FLAGS (R112, R193). -/
def Obligations.FlagsIsItsMembersSideBySide : Prop :=
  ∀ (s : State) (v : Word), s.ht = .ipv4 →
    (answer .getIpv4Flags s = some ⟨false, some (s.field Ipv4.flags), none⟩ ∧
      (s.field Ipv4.flags).toNat = 2 ^ 2 * (s.field Ipv4.flagsRsvd).toNat +
        2 ^ 1 * (s.field Ipv4.df).toNat +
        2 ^ 0 * (s.field Ipv4.mf).toNat) ∧
    (v.toNat < 8 → ∃ t u, exec (.setIpv4Flags v) s = .next t ∧
      execAll [.setIpv4FlagsRsvd ((v >>> 2) &&& 0x00000001#32), .setIpv4Df ((v >>> 1) &&& 0x00000001#32), .setIpv4Mf ((v >>> 0) &&& 0x00000001#32)] s = some u ∧
      t = u ∧ t.field Ipv4.flagsRsvd = (v >>> 2) &&& 0x00000001#32 ∧
        t.field Ipv4.df = (v >>> 1) &&& 0x00000001#32 ∧
        t.field Ipv4.mf = (v >>> 0) &&& 0x00000001#32) ∧
      (v.toNat < 2 → ∃ t, exec (.setIpv4FlagsRsvd v) s = .next t ∧
        t.field Ipv4.flags = (s.field Ipv4.flags &&& ~~~(0x00000004#32)) ||| (v <<< 2)) ∧
      (v.toNat < 2 → ∃ t, exec (.setIpv4Df v) s = .next t ∧
        t.field Ipv4.flags = (s.field Ipv4.flags &&& ~~~(0x00000002#32)) ||| (v <<< 1)) ∧
      (v.toNat < 2 → ∃ t, exec (.setIpv4Mf v) s = .next t ∧
        t.field Ipv4.flags = (s.field Ipv4.flags &&& ~~~(0x00000001#32)) ||| (v <<< 0))

/-- Enum and raw equivalence for the IP flags (R190, R193, R194). -/
def Obligations.DontFragmentViewsAgree : Prop :=
  ∀ (s : State) (g : BitVec 3), s.ht = .ipv4 →
    (∃ t, exec (.setIpv4Flags (g.setWidth 32)) s = .next t ∧
      answer .getIpv4Flags t = some ⟨false, some (g.setWidth 32), none⟩ ∧
      answer .getIpv4FlagsRsvd t = some ⟨false, some ((flagsReserved g).setWidth 32), none⟩ ∧
      answer .getIpv4Df t = some ⟨false, some ((flagsDf g).setWidth 32), none⟩ ∧
      answer .getIpv4Mf t = some ⟨false, some ((flagsMf g).setWidth 32), none⟩ ∧
      ((answer .getIpv4Df t).bind geteDf = some .dontFragment ↔ g.getLsbD 1 = true)) ∧
    (∃ t x, exec (.setIpv4Df 1) s = .next t ∧ answer .getIpv4Flags t = some ⟨false, some x, none⟩ ∧
      x.getLsbD 1 = true ∧ (answer .getIpv4Df t).bind geteDf = some .dontFragment)

/-- The nested containers as pure functions, and as the GETs show them (R192, R193). -/
def Obligations.PackFunctionsAreTheirProjections : Prop :=
  (∀ (p : BitVec 3) (d th r : BitVec 1) (z : BitVec 2),
      tosPrecedence (tosPack p d th r z) = p ∧ tosDelay (tosPack p d th r z) = d ∧
      tosThroughput (tosPack p d th r z) = th ∧ tosReliability (tosPack p d th r z) = r ∧
      tosReserved (tosPack p d th r z) = z) ∧
    (∀ t : BitVec 8, tosPack (tosPrecedence t) (tosDelay t) (tosThroughput t) (tosReliability t)
      (tosReserved t) = t) ∧
    (∀ z df mf : BitVec 1, flagsReserved (flagsPack z df mf) = z ∧ flagsDf (flagsPack z df mf) = df ∧
      flagsMf (flagsPack z df mf) = mf) ∧
    (∀ g : BitVec 3, flagsPack (flagsReserved g) (flagsDf g) (flagsMf g) = g) ∧
    ∀ s : State, s.ht = .ipv4 →
      (∃ (p : BitVec 3) (d th r : BitVec 1) (z : BitVec 2),
        answer .getIpv4Precedence s = some ⟨false, some (p.setWidth 32), none⟩ ∧
        answer .getIpv4Delay s = some ⟨false, some (d.setWidth 32), none⟩ ∧
        answer .getIpv4Throughput s = some ⟨false, some (th.setWidth 32), none⟩ ∧
        answer .getIpv4Reliability s = some ⟨false, some (r.setWidth 32), none⟩ ∧
        answer .getIpv4TosRsvd s = some ⟨false, some (z.setWidth 32), none⟩ ∧
        answer .getIpv4Tos s = some ⟨false, some ((tosPack p d th r z).setWidth 32), none⟩) ∧
      (∃ z df mf : BitVec 1,
        answer .getIpv4FlagsRsvd s = some ⟨false, some (z.setWidth 32), none⟩ ∧
        answer .getIpv4Df s = some ⟨false, some (df.setWidth 32), none⟩ ∧
        answer .getIpv4Mf s = some ⟨false, some (mf.setWidth 32), none⟩ ∧
        answer .getIpv4Flags s = some ⟨false, some ((flagsPack z df mf).setWidth 32), none⟩)

/-- The views are total and inverse (R185). The names themselves are PRESUMED (log entry 9). -/
def Obligations.EnumeratedViewsAreBijections : Prop :=
  (∀ n : Precedence, Precedence.name n.code = n) ∧ (∀ v : BitVec 3, (Precedence.name v).code = v) ∧
    (∀ n : Delay, Delay.name n.code = n) ∧ (∀ v : BitVec 1, (Delay.name v).code = v) ∧
    (∀ n : Throughput, Throughput.name n.code = n) ∧ (∀ v : BitVec 1, (Throughput.name v).code = v) ∧
    (∀ n : Reliability, Reliability.name n.code = n) ∧ (∀ v : BitVec 1, (Reliability.name v).code = v) ∧
    (∀ n : DontFragment, DontFragment.name n.code = n) ∧ (∀ v : BitVec 1, (DontFragment.name v).code = v) ∧
    (∀ n : MoreFragments, MoreFragments.name n.code = n) ∧ (∀ v : BitVec 1, (MoreFragments.name v).code = v)

/-- Setting and getting through a view (R195). The names themselves are PRESUMED (log entry 9). -/
def Obligations.SettingThroughAViewNeverFails : Prop :=
  ∀ s : State, s.ht = .ipv4 →
    (∀ n : Precedence, ∃ t, exec (setePrecedence n) s = .next t ∧ t.rsp = some ⟨false, none, none⟩ ∧
      (answer .getIpv4Precedence t).bind getePrecedence = some n) ∧
    (∀ n : Delay, ∃ t, exec (seteDelay n) s = .next t ∧ t.rsp = some ⟨false, none, none⟩ ∧
      (answer .getIpv4Delay t).bind geteDelay = some n) ∧
    (∀ n : Throughput, ∃ t, exec (seteThroughput n) s = .next t ∧ t.rsp = some ⟨false, none, none⟩ ∧
      (answer .getIpv4Throughput t).bind geteThroughput = some n) ∧
    (∀ n : Reliability, ∃ t, exec (seteReliability n) s = .next t ∧ t.rsp = some ⟨false, none, none⟩ ∧
      (answer .getIpv4Reliability t).bind geteReliability = some n) ∧
    (∀ n : DontFragment, ∃ t, exec (seteDf n) s = .next t ∧ t.rsp = some ⟨false, none, none⟩ ∧
      (answer .getIpv4Df t).bind geteDf = some n) ∧
    (∀ n : MoreFragments, ∃ t, exec (seteMf n) s = .next t ∧ t.rsp = some ⟨false, none, none⟩ ∧
      (answer .getIpv4Mf t).bind geteMf = some n)

/-- The textual form and the pseudo-commands (R69, R70). The names themselves are PRESUMED (log entry 9). That a number of 2^32 or more, an LDB with another number of bytes or a byte above 255, and a boolean on a wider field stand for no command is the model's choice (log entry 13). -/
def Obligations.TextualFormsStandForTheirCommands : Prop :=
  (∀ ht : HeaderType, assemble ht .clr = some .clr ∧ assemble ht .stb = some .stb ∧
      assembleLine ht "CLR".toList = some .clr ∧ assembleLine ht "STB".toList = some .stb ∧
      (∀ b : List Byte, b.length = ht.numBytes →
        assemble ht (.ldb (b.map BitVec.toNat)) = some (.ldb b)) ∧
      ∀ ns : List Nat, ns.length ≠ ht.numBytes ∨ (∃ n ∈ ns, 256 ≤ n) → assemble ht (.ldb ns) = none) ∧
    (∀ (ht : HeaderType) (fid : Nat) (row : FieldRow) (v : Word) (d : List Byte),
    (fields ht)[fid]? = some row →
    ∃ i j, decode ht ⟨getCmd fid, v, d⟩ = .ok i ∧ assemble ht (.get row.name) = some i ∧
      decode ht ⟨setCmd fid, v, d⟩ = .ok j ∧ assemble ht (.set row.name v.toNat) = some j ∧
      (∀ n : Nat, 2 ^ 32 ≤ n → assemble ht (.set row.name n) = none) ∧
      (∀ b : Bool, assemble ht (.setBool row.name b) =
        if row.desc.w = 1 then assemble ht (.set row.name (if b then 1 else 0)) else none)) ∧
    (∀ n : Precedence, assemble .ipv4 (.sete "PRECEDENCE" n.spelling) = some (setePrecedence n) ∧
      assemble .ipv4 (.gete "PRECEDENCE") = some .getIpv4Precedence ∧
      showEnum .ipv4 "PRECEDENCE" (n.code.setWidth 32) = some n.spelling) ∧
    (∀ n : Delay, assemble .ipv4 (.sete "DELAY" n.spelling) = some (seteDelay n) ∧
      assemble .ipv4 (.gete "DELAY") = some .getIpv4Delay ∧
      showEnum .ipv4 "DELAY" (n.code.setWidth 32) = some n.spelling) ∧
    (∀ n : Throughput, assemble .ipv4 (.sete "THROUGHPUT" n.spelling) = some (seteThroughput n) ∧
      assemble .ipv4 (.gete "THROUGHPUT") = some .getIpv4Throughput ∧
      showEnum .ipv4 "THROUGHPUT" (n.code.setWidth 32) = some n.spelling) ∧
    (∀ n : Reliability, assemble .ipv4 (.sete "RELIABILITY" n.spelling) = some (seteReliability n) ∧
      assemble .ipv4 (.gete "RELIABILITY") = some .getIpv4Reliability ∧
      showEnum .ipv4 "RELIABILITY" (n.code.setWidth 32) = some n.spelling) ∧
    (∀ n : DontFragment, assemble .ipv4 (.sete "DF" n.spelling) = some (seteDf n) ∧
      assemble .ipv4 (.gete "DF") = some .getIpv4Df ∧
      showEnum .ipv4 "DF" (n.code.setWidth 32) = some n.spelling) ∧
    (∀ n : MoreFragments, assemble .ipv4 (.sete "MF" n.spelling) = some (seteMf n) ∧
      assemble .ipv4 (.gete "MF") = some .getIpv4Mf ∧
      showEnum .ipv4 "MF" (n.code.setWidth 32) = some n.spelling)

/-- The flag order (R178). -/
def Obligations.TcpFlagsOccupyByteThirteen : Prop :=
  ∀ s : State, s.ht = .tcp → ∃ b12 b13 : Byte,
    s.W.byteAt 12 = some b12 ∧ s.W.byteAt 13 = some b13 ∧
    b12.toNat = 16 * (s.field Tcp.dataOffset).toNat + (s.field Tcp.reserved).toNat ∧
    (s.field Tcp.cwr).toNat = (b13.getLsbD 7).toNat ∧
    (s.field Tcp.ece).toNat = (b13.getLsbD 6).toNat ∧
    (s.field Tcp.urg).toNat = (b13.getLsbD 5).toNat ∧
    (s.field Tcp.ack).toNat = (b13.getLsbD 4).toNat ∧
    (s.field Tcp.psh).toNat = (b13.getLsbD 3).toNat ∧
    (s.field Tcp.rst).toNat = (b13.getLsbD 2).toNat ∧
    (s.field Tcp.syn).toNat = (b13.getLsbD 1).toNat ∧
    (s.field Tcp.fin).toNat = (b13.getLsbD 0).toNat

/-- Round trip (R86). -/
def Obligations.DepositThenExtractGivesTheValue : Prop :=
  ∀ (word value : Word) (off w : Nat), 1 ≤ w → w ≤ 32 → off ≤ 31 → off + w ≤ 32 →
    value.toNat ≤ 2 ^ w - 1 →
    ∃ word', deposit word off w value = some (.ok word') ∧ extract word' off w = some value

/-- Preservation (R87). -/
def Obligations.DepositPreservesEveryOtherBit : Prop :=
  ∀ (word value : Word) (off w : Nat), 1 ≤ w → w ≤ 32 → off ≤ 31 → off + w ≤ 32 →
    value.toNat ≤ 2 ^ w - 1 →
    ∃ word', deposit word off w value = some (.ok word') ∧
      (∀ k, k < 32 → (k < off ∨ off + w ≤ k) → wireBit word' k = wireBit word k) ∧
      word' &&& ~~~(BitVec.ofNat 32 (2 ^ w - 1) <<< (32 - w - off)) =
        word &&& ~~~(BitVec.ofNat 32 (2 ^ w - 1) <<< (32 - w - off))

/-- The consequences (a) to (d) of R88. -/
def Obligations.DepositObeysTheAlgebraicLaws : Prop :=
  ∀ (word v1 v2 : Word) (off1 w1 off2 w2 : Nat), legalPos off1 w1 = true → legalPos off2 w2 = true →
    (∃ x, extract word off1 w1 = some x ∧ deposit word off1 w1 x = some (.ok word)) ∧
    (v1.toNat < 2 ^ w1 → v2.toNat < 2 ^ w1 →
      ∃ a, deposit word off1 w1 v1 = some (.ok a) ∧ deposit a off1 w1 v2 = deposit word off1 w1 v2 ∧
        deposit a off1 w1 v1 = some (.ok a)) ∧
    (v1.toNat < 2 ^ w1 → v2.toNat < 2 ^ w2 → (off1 + w1 ≤ off2 ∨ off2 + w2 ≤ off1) →
      ∃ a b c, deposit word off1 w1 v1 = some (.ok a) ∧ deposit a off2 w2 v2 = some (.ok c) ∧
        deposit word off2 w2 v2 = some (.ok b) ∧ deposit b off1 w1 v1 = some (.ok c) ∧
        extract a off2 w2 = extract word off2 w2) ∧
    (off1 ≤ off2 → off2 + w2 ≤ off1 + w1 →
      ∃ x, extract word off1 w1 = some x ∧
        extract word off2 w2 = some ((x >>> (w1 - w2 - (off2 - off1))) &&& BitVec.ofNat 32 (2 ^ w2 - 1)))

/-- Whole-word fields (R85). -/
def Obligations.WholeWordFieldsBypassMasking : Prop :=
  ∀ (word value : Word) (off : Nat),
    (legalPos off 32 = true ↔ off = 0) ∧ mask 32 = 0xFFFFFFFF#32 ∧ shamt 0 32 = 0 ∧
    shiftedMask 0 32 = 0xFFFFFFFF#32 ∧ word &&& ~~~(shiftedMask 0 32) = 0 ∧
    extract word 0 32 = some word ∧ deposit word 0 32 value = some (.ok value)

/-- Range of the shift (R82). -/
def Obligations.ShiftsLoseNoBits : Prop :=
  ∀ (off w : Nat) (v : Word), 1 ≤ w → w ≤ 32 → off ≤ 31 → off + w ≤ 32 →
    shamt off w ≤ 31 ∧ w + shamt off w = 32 - off ∧
    (mask w <<< shamt off w).toNat = (2 ^ w - 1) * 2 ^ shamt off w ∧
    (v ≤ mask w → (v <<< shamt off w).toNat = v.toNat * 2 ^ shamt off w)

/-- The BFU taken alone, and its domain (R71, R83, R84, R90). -/
def Obligations.BitFieldUnitAnswersInItsDomainOnly : Prop :=
  ∀ (word value : Word) (off : BitVec 5) (width : BitVec 6),
    (1 ≤ width.toNat → off.toNat + width.toNat ≤ 32 →
      ∃ out, bfu word off width value = some out ∧
        out.valueO = (word.extractLsb' (32 - off.toNat - width.toNat) width.toNat).setWidth 32 ∧
        (out.oorO = true ↔ 2 ^ width.toNat - 1 < value.toNat) ∧
        (out.oorO = true → out.wordO = none) ∧
        (out.oorO = false → ∃ word', out.wordO = some word' ∧
          ∀ k, k < 32 → wireBit word' k =
            (if off.toNat ≤ k ∧ k < off.toNat + width.toNat
              then value.getLsbD (off.toNat + width.toNat - 1 - k) else wireBit word k))) ∧
    ((width.toNat = 0 ∨ 32 < off.toNat + width.toNat) → bfu word off width value = none)

/-- The big-endian map (R41). -/
def Obligations.BytesAndWordsAreBigEndian : Prop :=
  ∀ s : State,
    (∀ a, a < s.ht.numBytes → ∃ w b, s.W[a / 4]? = some w ∧ s.W.byteAt a = some b ∧
      b = w.extractLsb' (24 - 8 * (a % 4)) 8 ∧ b.setWidth 32 = (w >>> (24 - 8 * (a % 4))) &&& 0xFF#32) ∧
    (∀ i, i < s.ht.numWords → ∃ b0 b1 b2 b3 : Byte, s.W.byteAt (4 * i) = some b0 ∧
      s.W.byteAt (4 * i + 1) = some b1 ∧ s.W.byteAt (4 * i + 2) = some b2 ∧
      s.W.byteAt (4 * i + 3) = some b3 ∧ s.W[i]? = some (b0 ++ b1 ++ b2 ++ b3))

/-- Bits in the byte stream (R42). -/
def Obligations.StreamBitsNumberBytesAndFields : Prop :=
  ∀ s : State,
    (∀ k, k < 8 * s.ht.numBytes → ∃ w b, s.W[k / 32]? = some w ∧ s.W.byteAt (k / 8) = some b ∧
      s.W.streamBit k = some (w.getLsbD (31 - k % 32)) ∧
      s.W.streamBit k = some (b.getLsbD (7 - k % 8))) ∧
    (∀ (d : FieldDesc) (j : Nat), d.legal s.ht.numWords = true → j < d.w →
      s.W.streamBit (32 * d.widx + d.off + j) = some ((s.field d).getLsbD (d.w - 1 - j)))

/-- MemRead and MemWrite (R43, R44). -/
def Obligations.MemWriteWritesItsBytesOnly : Prop :=
  ∀ (s : State) (a n v : Nat), 1 ≤ n → a + n ≤ s.ht.numBytes → v < 2 ^ (8 * n) →
    ∃ t, s.memWrite a n v = some t ∧
      (∀ j, j < n → t.W.byteAt (a + j) = some (BitVec.ofNat 8 (v >>> (8 * (n - 1 - j))))) ∧
      (∀ k, (k < a ∨ a + n ≤ k) → t.W.byteAt k = s.W.byteAt k) ∧
      t.memRead a n = some v ∧ t.ht = s.ht ∧ t.port = s.port ∧ t.rsp = s.rsp

/-- The mixed-width view (R56, R150). -/
def Obligations.AlignedFieldsAreMemReads : Prop :=
  ∀ (s : State) (i : Nat), i < s.ht.numWords →
    s.memRead (4 * i + 2) 2 = some (s.field ⟨i, 16, 16⟩).toNat ∧
    s.memRead (4 * i) 2 = some (s.field ⟨i, 0, 16⟩).toNat ∧
    s.memRead (4 * i) 4 = some (s.field ⟨i, 0, 32⟩).toNat

/-- Equality of containers (R30). -/
def Obligations.ContainersAreEqualByTheirBytes : Prop :=
  ∀ c c' : Container, c.ht = c'.ht →
    (c = c' ↔ ∀ a, a < c.ht.numBytes → c.words.byteAt a = c'.words.byteAt a) ∧
    (c = c' ↔ ∀ i, i < c.ht.numWords → c.words[i]? = c'.words[i]?)

/-- The byte-buffer result on its port (R65). -/
def Obligations.TheDataBusIsTheWordsSideBySide : Prop :=
  ∀ s : State, ∃ b : List Byte, answer .stb s = some ⟨false, none, some b⟩ ∧
    b.length = s.ht.numBytes ∧ bigEndian b = wordBus s.W ∧ bytesOfNat s.ht.numBytes (bigEndian b) = b ∧
    ∀ a, a < s.ht.numBytes →
      b[a]? = some (BitVec.ofNat 8 (wordBus s.W >>> (8 * (s.ht.numBytes - 1 - a))))

/-- The shipped tables (R27, R28, R64). -/
def Obligations.ShippedLayoutsAreWellFormed : Prop :=
  (∀ ht : HeaderType, (layout ht).wf = true ∧ (layout ht).covers = true ∧
      pack 0 ((leafDescs (fields ht)).map FieldDesc.w) = leafDescs (fields ht)) ∧
    (fields .ipv4).length = 22 ∧ (fields .udp).length = 4 ∧ (fields .tcp).length = 17
end

