-- ==== Sys2Proof/Laws/Bfu.lean ====
section
/-!
SUPPORT. The bits of `mask`, `extractBits` and `depositBits`, and the one comparison, in terms of numbers.
Later proofs about a field cite these and never unfold the formulas.
-/

namespace Sys2Proof.Machine

/-- The domain in arithmetic form. -/
theorem legalPos_iff {off w : Nat} :
    legalPos off w = true ↔ 1 ≤ w ∧ w ≤ 32 ∧ off ≤ 31 ∧ off + w ≤ 32 := by
  simp [legalPos, and_assoc]

/-- `Mask(w)` is the number `2^w - 1`. -/
theorem mask_toNat {w : Nat} (h : w ≤ 32) : (mask w).toNat = 2 ^ w - 1 := by
  have h1 : 2 ^ w ≤ 2 ^ 32 := Nat.pow_le_pow_right (by decide) h
  have h2 : 0 < 2 ^ w := Nat.pow_pos (by decide)
  simp only [mask, BitVec.toNat_ofNat]
  exact Nat.mod_eq_of_lt (by omega)

/-- `Mask(w)` has its ones in value bits 0 to `w-1`. -/
theorem mask_getLsbD {w : Nat} (h : w ≤ 32) (i : Nat) : (mask w).getLsbD i = decide (i < w) := by
  rw [BitVec.getLsbD, mask_toNat h, Nat.testBit_two_pow_sub_one]

/-- A value exceeds the mask exactly when it does not fit in `w` bits. -/
theorem exceeds_iff {w : Nat} (h : w ≤ 32) (v : Word) : exceeds w v = true ↔ 2 ^ w ≤ v.toNat := by
  have h2 : 0 < 2 ^ w := Nat.pow_pos (by decide)
  simp only [exceeds, decide_eq_true_eq, BitVec.lt_def, mask_toNat h]
  omega

/-- A value that fits has no bit at or above `w`. -/
theorem getLsbD_of_fits {w : Nat} {v : Word} (h : v.toNat < 2 ^ w) {i : Nat} (hi : w ≤ i) :
    v.getLsbD i = false := by
  rw [BitVec.getLsbD]
  exact Nat.testBit_lt_two_pow (Nat.lt_of_lt_of_le h (Nat.pow_le_pow_right (by decide) hi))

/-- The bits of an extracted value: the field's, right-aligned. -/
theorem extractBits_getLsbD {off w : Nat} (h : legalPos off w = true) (word : Word) (i : Nat) :
    (extractBits word off w).getLsbD i = (decide (i < w) && word.getLsbD (shamt off w + i)) := by
  obtain ⟨-, hw, -, -⟩ := legalPos_iff.1 h
  simp [extractBits, mask_getLsbD hw, Bool.and_comm]

/-- The bits of the shifted mask: those of the field. -/
theorem shiftedMask_getLsbD {off w : Nat} (h : legalPos off w = true) (i : Nat) :
    (shiftedMask off w).getLsbD i = decide (shamt off w ≤ i ∧ i < 32 - off) := by
  obtain ⟨h1, hw, ho, hs⟩ := legalPos_iff.1 h
  have e : off + w + shamt off w = 32 := by unfold shamt; omega
  simp only [shiftedMask, BitVec.getLsbD_shiftLeft, mask_getLsbD hw]
  generalize shamt off w = k at e
  rw [Bool.eq_iff_iff]
  simp only [Bool.and_eq_true, Bool.not_eq_true', decide_eq_true_eq, decide_eq_false_iff_not]
  omega

/-- The bits of a deposit of a value that fits: the value's inside the field, the old word's outside. -/
theorem depositBits_getLsbD {off w : Nat} (h : legalPos off w = true) (word : Word) {v : Word}
    (hv : v.toNat < 2 ^ w) {i : Nat} (hi : i < 32) :
    (depositBits word off w v).getLsbD i =
      if shamt off w ≤ i ∧ i < 32 - off then v.getLsbD (i - shamt off w) else word.getLsbD i := by
  obtain ⟨h1, hw, ho, hs⟩ := legalPos_iff.1 h
  have e : 32 - off = shamt off w + w := by unfold shamt; omega
  simp only [depositBits, BitVec.getLsbD_or, BitVec.getLsbD_and, BitVec.getLsbD_not,
    shiftedMask_getLsbD h, BitVec.getLsbD_shiftLeft, hi, decide_true, Bool.true_and, e]
  by_cases ha : i < shamt off w
  · have hb : ¬ shamt off w ≤ i := by omega
    simp [ha, hb]
  · by_cases hc : i < shamt off w + w
    · have hb : shamt off w ≤ i := by omega
      simp [ha, hb, hc]
    · have hz : v.getLsbD (i - shamt off w) = false := getLsbD_of_fits hv (by omega)
      simp [ha, hc, hz]

/-- `extract` inside and outside the domain. -/
theorem extract_eq_some_iff {word v : Word} {off w : Nat} :
    extract word off w = some v ↔ legalPos off w = true ∧ extractBits word off w = v := by
  unfold extract
  split
  · simp only [Option.some.injEq, *, true_and]
  · simp only [reduceCtorEq, false_iff, not_and]
    intro h
    contradiction

/-- Everything `deposit` can answer. -/
theorem deposit_eq_some_iff {word v : Word} {off w : Nat} {r : Deposited} :
    deposit word off w v = some r ↔ legalPos off w = true ∧
      ((exceeds w v = true ∧ r = .outOfRange) ∨
        (exceeds w v = false ∧ r = .ok (depositBits word off w v))) := by
  unfold deposit
  split
  · split
    · next he => simp [*, eq_comm]
    · next he => simp [*, eq_comm]
  · simp only [reduceCtorEq, false_iff, not_and]
    intro h
    contradiction

end Sys2Proof.Machine
end

