-- ==== Sys2Proof/Laws/State.lean ====
section
/-!
SUPPORT. The small lemmas of `Container` (its words as a list, and back), and one lemma per field of `State`,
and per view of its container (`ht`, `W`), per update.
-/

namespace Sys2Proof.Machine

/-- A container has exactly the `N` words of its header type (R20). -/
@[simp] theorem Container.words_length (c : Container) : c.words.length = c.ht.numWords := by cases c <;> rfl

@[simp] theorem Container.ofWords_ht (ht : HeaderType) (m : Memory) : (Container.ofWords ht m).ht = ht := by
  cases ht <;> rfl

/-- Exactly `N` words are the words of their container. -/
theorem Container.ofWords_words {ht : HeaderType} {m : Memory} (h : m.wf ht) : (Container.ofWords ht m).words = m := by
  cases ht
  · match m, h with
    | [_, _, _, _, _, _], _ => rfl
  · match m, h with
    | [_, _], _ => rfl
  · match m, h with
    | [_, _, _, _, _], _ => rfl

/-- A container is the container of its words. -/
@[simp] theorem Container.words_ofWords (c : Container) : Container.ofWords c.ht c.words = c := by cases c <;> rfl

/-- Containers of one header type with the same words are the same. -/
theorem Container.ext_words {c c' : Container} (h : c.ht = c'.ht) (hw : c.words = c'.words) : c = c' := by
  rw [← c.words_ofWords, ← c'.words_ofWords, h, hw]

@[simp] theorem Container.setWord_ht (c : Container) (i : Nat) (v : Word) : (c.setWord i v).ht = c.ht :=
  Container.ofWords_ht _ _

/-- Replacing a word replaces that entry of the list and no other (R21). -/
@[simp] theorem Container.setWord_words (c : Container) (i : Nat) (v : Word) :
    (c.setWord i v).words = c.words.set i v :=
  Container.ofWords_words ((List.length_set ..).trans c.words_length)

/-- Of two writes of one word the last wins. -/
@[simp] theorem Container.setWord_setWord (c : Container) (i : Nat) (v v' : Word) :
    (c.setWord i v).setWord i v' = c.setWord i v' :=
  Container.ext_words (by simp) (by simp [List.set_set])

@[simp] theorem Container.zero_ht (ht : HeaderType) : (Container.zero ht).ht = ht := by cases ht <;> rfl

/-- The zero container has `N` zero words (R31). -/
@[simp] theorem Container.zero_words (ht : HeaderType) :
    (Container.zero ht).words = List.replicate ht.numWords 0 := by cases ht <;> rfl

/-- Every state has exactly `N` storage words (R20). -/
@[simp] theorem State.W_length (s : State) : s.W.length = s.ht.numWords := s.container.words_length

@[simp] theorem State.setContainer_container (s : State) (c : Container) : (s.setContainer c).container = c := rfl
@[simp] theorem State.setContainer_ht (s : State) (c : Container) : (s.setContainer c).ht = c.ht := rfl
@[simp] theorem State.setContainer_W (s : State) (c : Container) : (s.setContainer c).W = c.words := rfl
@[simp] theorem State.setContainer_port (s : State) (c : Container) : (s.setContainer c).port = s.port := rfl
@[simp] theorem State.setContainer_rsp (s : State) (c : Container) : (s.setContainer c).rsp = s.rsp := rfl

@[simp] theorem State.respond_container (s : State) (r : Response) : (s.respond r).container = s.container := rfl
@[simp] theorem State.respond_ht (s : State) (r : Response) : (s.respond r).ht = s.ht := rfl
@[simp] theorem State.respond_W (s : State) (r : Response) : (s.respond r).W = s.W := rfl
@[simp] theorem State.respond_port (s : State) (r : Response) : (s.respond r).port = s.port := rfl
@[simp] theorem State.respond_rsp (s : State) (r : Response) : (s.respond r).rsp = some r := rfl

@[simp] theorem State.silent_container (s : State) : (s.silent).container = s.container := rfl
@[simp] theorem State.silent_ht (s : State) : (s.silent).ht = s.ht := rfl
@[simp] theorem State.silent_W (s : State) : (s.silent).W = s.W := rfl
@[simp] theorem State.silent_port (s : State) : (s.silent).port = s.port := rfl
@[simp] theorem State.silent_rsp (s : State) : (s.silent).rsp = none := rfl

@[simp] theorem State.setPort_container (s : State) (p : List PortCycle) : (s.setPort p).container = s.container := rfl
@[simp] theorem State.setPort_ht (s : State) (p : List PortCycle) : (s.setPort p).ht = s.ht := rfl
@[simp] theorem State.setPort_W (s : State) (p : List PortCycle) : (s.setPort p).W = s.W := rfl
@[simp] theorem State.setPort_port (s : State) (p : List PortCycle) : (s.setPort p).port = p := rfl
@[simp] theorem State.setPort_rsp (s : State) (p : List PortCycle) : (s.setPort p).rsp = s.rsp := rfl

@[simp] theorem State.writeWord_container (s : State) (i : Nat) (v : Word) : (s.writeWord i v).container = s.container.setWord i v := rfl
@[simp] theorem State.writeWord_ht (s : State) (i : Nat) (v : Word) : (s.writeWord i v).ht = s.ht := s.container.setWord_ht i v
@[simp] theorem State.writeWord_W (s : State) (i : Nat) (v : Word) : (s.writeWord i v).W = s.W.set i v := s.container.setWord_words i v
@[simp] theorem State.writeWord_port (s : State) (i : Nat) (v : Word) : (s.writeWord i v).port = s.port := rfl
@[simp] theorem State.writeWord_rsp (s : State) (i : Nat) (v : Word) : (s.writeWord i v).rsp = s.rsp := rfl

@[simp] theorem State.setWords_container (s : State) (m : Memory) : (s.setWords m).container = Container.ofWords s.ht m := rfl
@[simp] theorem State.setWords_ht (s : State) (m : Memory) : (s.setWords m).ht = s.ht := Container.ofWords_ht s.ht m
@[simp] theorem State.setWords_port (s : State) (m : Memory) : (s.setWords m).port = s.port := rfl
@[simp] theorem State.setWords_rsp (s : State) (m : Memory) : (s.setWords m).rsp = s.rsp := rfl
theorem State.setWords_W {s : State} {m : Memory} (h : m.wf s.ht) : (s.setWords m).W = m :=
  Container.ofWords_words h

@[simp] theorem raiseOutOfRange_container (s : State) : (raiseOutOfRange s).container = s.container := rfl
@[simp] theorem raiseOutOfRange_ht (s : State) : (raiseOutOfRange s).ht = s.ht := rfl
@[simp] theorem raiseOutOfRange_W (s : State) : (raiseOutOfRange s).W = s.W := rfl
@[simp] theorem raiseOutOfRange_port (s : State) : (raiseOutOfRange s).port = s.port := rfl
@[simp] theorem raiseOutOfRange_rsp (s : State) : (raiseOutOfRange s).rsp = some errResponse := rfl

@[simp] theorem resetCycle_container (s : State) : (resetCycle s).container = Container.zero s.ht := rfl
@[simp] theorem resetCycle_ht (s : State) : (resetCycle s).ht = s.ht := Container.zero_ht s.ht
@[simp] theorem resetCycle_W (s : State) : (resetCycle s).W = List.replicate s.ht.numWords 0 := Container.zero_words s.ht
@[simp] theorem resetCycle_port (s : State) : (resetCycle s).port = s.port := rfl
@[simp] theorem resetCycle_rsp (s : State) : (resetCycle s).rsp = none := rfl

@[simp] theorem idleCycle_container (s : State) : (idleCycle s).container = s.container := rfl
@[simp] theorem idleCycle_ht (s : State) : (idleCycle s).ht = s.ht := rfl
@[simp] theorem idleCycle_W (s : State) : (idleCycle s).W = s.W := rfl
@[simp] theorem idleCycle_port (s : State) : (idleCycle s).port = s.port := rfl
@[simp] theorem idleCycle_rsp (s : State) : (idleCycle s).rsp = none := rfl

@[simp] theorem State.resetOf_container (ht : HeaderType) : (State.resetOf ht).container = Container.zero ht := rfl
@[simp] theorem State.resetOf_ht (ht : HeaderType) : (State.resetOf ht).ht = ht := Container.zero_ht ht
@[simp] theorem State.resetOf_W (ht : HeaderType) : (State.resetOf ht).W = List.replicate ht.numWords 0 := Container.zero_words ht
@[simp] theorem State.resetOf_port (ht : HeaderType) : (State.resetOf ht).port = [] := rfl
@[simp] theorem State.resetOf_rsp (ht : HeaderType) : (State.resetOf ht).rsp = none := rfl

end Sys2Proof.Machine
end

