-- ==== Sys2Proof/Laws/Ops.lean ====
section
/-!
SUPPORT. For each shared operation, once, everything it can do; and that every operation on the storage
words keeps their canonical form. Later proofs cite these instead of unfolding the operations.
-/

namespace Sys2Proof.Machine

/-- If a GET answers a next state, it read a legal field of this instance, and only the response changed. -/
theorem getField_next {ht : HeaderType} {d : FieldDesc} {s t : State} (h : getField ht d s = .next t) :
    s.ht = ht ∧ legalPos d.off d.w = true ∧ ∃ word, s.W[d.widx]? = some word ∧
      t = s.respond (valueResponse (extractBits word d.off d.w)) := by
  unfold getField State.readWord at h
  split at h
  · split at h
    · cases h
    · split at h
      · cases h
      · next hw _ _ hx =>
        obtain ⟨hl, rfl⟩ := extract_eq_some_iff.1 hx
        cases h
        exact ⟨‹_›, hl, _, hw, rfl⟩
  · cases h

/-- If a SET answers a next state, it either reported `OutOfRange` and changed no word, or wrote the one
word of its field. -/
theorem setField_next {ht : HeaderType} {d : FieldDesc} {v : Word} {s t : State}
    (h : setField ht d v s = .next t) :
    s.ht = ht ∧ legalPos d.off d.w = true ∧ ∃ word, s.W[d.widx]? = some word ∧
      ((exceeds d.w v = true ∧ t = raiseOutOfRange s) ∨
        (exceeds d.w v = false ∧
          t = (s.writeWord d.widx (depositBits word d.off d.w v)).respond okResponse)) := by
  unfold setField State.readWord at h
  split at h
  · split at h
    · cases h
    · split at h
      · cases h
      · next hw _ hx =>
        obtain ⟨hl, hc⟩ := deposit_eq_some_iff.1 hx
        cases h
        refine ⟨‹_›, hl, _, hw, .inl ?_⟩
        rcases hc with ⟨he, -⟩ | ⟨-, hr⟩
        · exact ⟨he, rfl⟩
        · cases hr
      · next hw _ _ hx =>
        obtain ⟨hl, hc⟩ := deposit_eq_some_iff.1 hx
        cases h
        refine ⟨‹_›, hl, _, hw, .inr ?_⟩
        rcases hc with ⟨-, hr⟩ | ⟨he, hr⟩
        · cases hr
        · cases hr
          exact ⟨he, rfl⟩
  · cases h

/-- CLR always answers the cleared instance. -/
theorem clearAll_next {s t : State} (h : clearAll s = .next t) :
    t = (s.setContainer (Container.zero s.ht)).respond okResponse := by
  cases h
  rfl

/-- If an LDB answers a next state, its buffer had the exact size. -/
theorem loadBuffer_next {b : List Byte} {s t : State} (h : loadBuffer b s = .next t) :
    b.length = s.ht.numBytes ∧ t = (s.setWords (wordsOfBytes b)).respond okResponse := by
  unfold loadBuffer at h
  split at h
  · cases h
    exact ⟨‹_›, rfl⟩
  · cases h

/-- STB always answers the buffer's bytes; only the response changed. -/
theorem storeBuffer_next {s t : State} (h : storeBuffer s = .next t) :
    t = s.respond (dataResponse (bytesOfWords s.W)) := by
  cases h
  rfl

/-- Every way a cycle can end in a next state: idle, reset, or a decoded command that answers it. -/
theorem step_next {s t : State} (h : step s = .next t) :
    (s.port = [] ∧ t = idleCycle s) ∨
    ∃ c rest, s.port = c :: rest ∧
      ((c.rst = true ∧ t = resetCycle (s.setPort rest)) ∨
       (c.rst = false ∧ c.valid = false ∧ t = idleCycle (s.setPort rest)) ∨
       (c.rst = false ∧ c.valid = true ∧
          ∃ i, decode s.ht c.req = .ok i ∧ exec i (s.setPort rest) = .next t)) := by
  unfold step fetch at h
  cases hp : s.port with
  | nil =>
    simp only [hp] at h
    cases h
    exact .inl ⟨rfl, rfl⟩
  | cons c rest =>
    refine .inr ⟨c, rest, rfl, ?_⟩
    simp only [hp, applyCycle] at h
    cases hr : c.rst with
    | true =>
      simp only [hr, if_true] at h
      cases h
      exact .inl ⟨rfl, rfl⟩
    | false =>
      cases hv : c.valid with
      | false =>
        simp only [hr, hv, Bool.false_eq_true, if_false] at h
        cases h
        exact .inr (.inl ⟨rfl, rfl, rfl⟩)
      | true =>
        simp only [hr, hv, Bool.false_eq_true, if_false, if_true, State.setPort_ht] at h
        cases hd : decode s.ht c.req with
        | ok i =>
          rw [hd] at h
          exact .inr (.inr ⟨rfl, rfl, i, rfl, h⟩)
        | error e =>
          rw [hd] at h
          cases h

/-- The words of every state have the canonical form, `State.reset` included (R20). -/
theorem State.W_wf (s : State) : s.W.wf s.ht := s.W_length

/-- Reset leaves the memory in its canonical form. -/
theorem reset_memory_wf : State.reset.W.wf State.reset.ht := State.reset.W_wf

/-- The buffer's bytes are `BYTES` (R40). -/
theorem bytesOfWords_length (m : Memory) : (bytesOfWords m).length = 4 * m.length := by
  induction m with
  | nil => rfl
  | cons w m ih => simp [bytesOfWords, bytesOfWord, ih]; omega

/-- Writing a word keeps the canonical form. -/
theorem writeWord_wf (s : State) (i : Nat) (v : Word) : (s.writeWord i v).W.wf s.ht := by simp [Memory.wf]

/-- Writing a byte keeps the canonical form. -/
theorem Memory.setByte_length (m : Memory) (a : Nat) (b : Byte) : (m.setByte a b).length = m.length := by
  unfold Memory.setByte
  split <;> simp

/-- Writing bytes keeps the canonical form. -/
theorem Memory.writeBytes_length (m : Memory) (a : Nat) (bs : List Byte) :
    (m.writeBytes a bs).length = m.length := by
  induction bs generalizing m a with
  | nil => rfl
  | cons b bs ih => simp [Memory.writeBytes, ih, Memory.setByte_length]

/-- `MemWrite` writes its bytes into the canonical form and keeps it; header type, port and response stay. -/
theorem memWrite_next {s t : State} {a n v : Nat} (h : s.memWrite a n v = some t) :
    t = s.setWords (s.W.writeBytes a (bytesOfNat n v)) ∧ t.W = s.W.writeBytes a (bytesOfNat n v) ∧ t.ht = s.ht := by
  unfold State.memWrite at h
  split at h
  · cases h
    exact ⟨rfl, State.setWords_W (by simp [Memory.wf, Memory.writeBytes_length]), State.setWords_ht _ _⟩
  · cases h

/-- Four bytes make one word. -/
theorem wordsOfBytes_length : ∀ (n : Nat) (b : List Byte), b.length = 4 * n → (wordsOfBytes b).length = n
  | 0, b, h => by
    have : b = [] := List.eq_nil_of_length_eq_zero (by omega)
    subst this
    rfl
  | n + 1, b, h => by
    match b, h with
    | b0 :: b1 :: b2 :: b3 :: rest, h =>
      have := wordsOfBytes_length n rest (by simp only [List.length_cons] at h; omega)
      simp [wordsOfBytes, this]

/-- After an LDB the words are those of the buffer presented. -/
theorem loadBuffer_words {b : List Byte} {s t : State} (h : loadBuffer b s = .next t) : t.W = wordsOfBytes b := by
  obtain ⟨hb, rfl⟩ := loadBuffer_next h
  exact State.setWords_W (wordsOfBytes_length _ _ hb)

/-- The bytes read are as many as were asked for. -/
theorem Memory.readBytes_length {m : Memory} {n a : Nat} {b : List Byte}
    (h : m.readBytes a n = some b) : b.length = n := by
  induction n generalizing a b with
  | zero => cases h; rfl
  | succ n ih =>
    unfold Memory.readBytes at h
    split at h
    · next hb =>
      cases h
      simp [ih hb]
    · cases h

end Sys2Proof.Machine
end

