-- ==== Sys2Proof/Laws/Bytes.lean ====
section
/-!
SUPPORT. The bytes of words and of the buffer: what reading a byte after writing one gives, and how lists of
bytes, words and numbers stand for one another (spec/20_memory.md R41 to R44). Later proofs cite these and
never unfold the byte operations.
-/

namespace Sys2Proof.Machine

/-- Byte `k` of a word as a slice (R41). -/
theorem byteOf_eq_extractLsb (w : Word) (k : Nat) (_hk : k < 4) : byteOf w k = w.extractLsb' (24 - 8 * k) 8 := by
  apply BitVec.eq_of_getLsbD_eq
  intro i hi
  have hff : (0xFF#32).getLsbD i = decide (i < 8) := mask_getLsbD (w := 8) (by decide) i
  simp [byteOf, hi]
  intro _; rw [← BitVec.getLsbD_eq_getElem]; have hi2 := hi; clear hff hi; interval_cases i <;> rfl

/-- The bytes of four bytes put side by side (R41). -/
theorem byteOf_append (b0 b1 b2 b3 : Byte) : byteOf (b0 ++ b1 ++ b2 ++ b3) 0 = b0 ∧ byteOf (b0 ++ b1 ++ b2 ++ b3) 1 = b1 ∧
    byteOf (b0 ++ b1 ++ b2 ++ b3) 2 = b2 ∧ byteOf (b0 ++ b1 ++ b2 ++ b3) 3 = b3 := by
  refine ⟨?_, ?_, ?_, ?_⟩ <;> rw [byteOf_eq_extractLsb _ _ (by decide)] <;>
  · apply BitVec.eq_of_getLsbD_eq
    intro i hi
    simp only [BitVec.getLsbD_extractLsb', BitVec.getLsbD_append, hi]
    interval_cases i <;> simp

/-- A word is its four bytes side by side (R41). -/
theorem append_byteOf (w : Word) : byteOf w 0 ++ byteOf w 1 ++ byteOf w 2 ++ byteOf w 3 = w := by
  simp only [byteOf_eq_extractLsb _ _ (show 0 < 4 by decide), byteOf_eq_extractLsb _ _ (show 1 < 4 by decide), byteOf_eq_extractLsb _ _ (show 2 < 4 by decide), byteOf_eq_extractLsb _ _ (show 3 < 4 by decide)]
  apply BitVec.eq_of_getLsbD_eq
  intro i hi
  simp only [BitVec.getLsbD_extractLsb', BitVec.getLsbD_append]
  interval_cases i <;> simp

/-- Word `i` of a buffer is its bytes `4i` to `4i+3` side by side (R41). -/
theorem wordsOfBytes_getElem : ∀ (b : List Byte) (n i : Nat), b.length = 4 * n → i < n → ∃ b0 b1 b2 b3 : Byte,
    b[4 * i]? = some b0 ∧ b[4 * i + 1]? = some b1 ∧ b[4 * i + 2]? = some b2 ∧
          b[4 * i + 3]? = some b3 ∧ (wordsOfBytes b)[i]? = some (b0 ++ b1 ++ b2 ++ b3) := by
  intro b n i hb hi
  induction n generalizing b i with
  | zero => omega
  | succ n ih =>
    match b, hb with
    | b0 :: b1 :: b2 :: b3 :: rest, hb =>
      cases i with
      | zero => exact ⟨b0, b1, b2, b3, rfl, rfl, rfl, rfl, rfl⟩
      | succ i =>
        obtain ⟨c0, c1, c2, c3, h⟩ := ih rest i (by simp at hb; omega) (by omega)
        refine ⟨c0, c1, c2, c3, ?_⟩
        simpa [wordsOfBytes, Nat.mul_add] using h

/-- The byte that was deposited. -/
theorem byteOf_depositBits_self (w : Word) (k : Nat) (hk : k < 4) (b : Byte) : byteOf (depositBits w (8 * k) 8 (b.setWidth 32)) k = b := by
  rw [byteOf_eq_extractLsb _ _ hk]
  apply BitVec.eq_of_getLsbD_eq
  intro i hi
  have hb : (b.setWidth 32).toNat < 2 ^ 8 := by
    have := b.isLt; simp; omega
  have hp : legalPos (8 * k) 8 = true := legalPos_iff.2 (by omega)
  rw [BitVec.getLsbD_extractLsb', depositBits_getLsbD hp _ hb (by omega)]
  have : shamt (8 * k) 8 = 24 - 8 * k := by unfold shamt; omega
  rw [this, if_pos (by omega)]
  simp [hi]
  omega

/-- A byte beside the deposited one. -/
theorem byteOf_depositBits_other (w : Word) (k j : Nat) (hk : k < 4) (hj : j < 4) (hne : j ≠ k) (b : Byte) :
    byteOf (depositBits w (8 * k) 8 (b.setWidth 32)) j = byteOf w j := by
  rw [byteOf_eq_extractLsb _ _ hj, byteOf_eq_extractLsb _ _ hj]
  apply BitVec.eq_of_getLsbD_eq
  intro i hi
  have hb : (b.setWidth 32).toNat < 2 ^ 8 := by
    have := b.isLt; simp; omega
  have hp : legalPos (8 * k) 8 = true := legalPos_iff.2 (by omega)
  rw [BitVec.getLsbD_extractLsb', depositBits_getLsbD hp _ hb (by omega), BitVec.getLsbD_extractLsb']
  have : shamt (8 * k) 8 = 24 - 8 * k := by unfold shamt; omega
  rw [this, if_neg (by omega)]

/-- A byte reads as the one written (R44). -/
theorem Memory.setByte_byteAt_self {m : Memory} {a : Nat} (b : Byte) (h : a < 4 * m.length) : (m.setByte a b).byteAt a = some b := by
  have h' : a / 4 < m.length := by omega
  simp [Memory.setByte, Memory.byteAt, h', byteOf_depositBits_self _ _ (Nat.mod_lt a (by decide : 4 > 0))]

/-- Writing a byte leaves every other address alone (R44). -/
theorem Memory.setByte_byteAt_other {m : Memory} {a c : Nat} (b : Byte) (h : c ≠ a) : (m.setByte a b).byteAt c = m.byteAt c := by
  unfold Memory.setByte
  cases hw : m[a / 4]? with
  | none => rfl
  | some w =>
    simp only [Memory.byteAt]
    by_cases hq : a / 4 = c / 4
    · have hl : c / 4 < m.length := by rw [← hq]; exact (List.getElem?_eq_some_iff.1 hw).1
      rw [hq] at hw ⊢
      simp only [List.getElem?_set_self hl, hw, Option.map_some]
      rw [byteOf_depositBits_other _ _ _ (by omega) (by omega) (by omega)]
    · rw [List.getElem?_set_ne hq]

/-- Writing bytes leaves every address outside them alone (R44). -/
theorem Memory.writeBytes_byteAt_other {m : Memory} {a : Nat} {bs : List Byte} {k : Nat} (h : k < a ∨ a + bs.length ≤ k) :
    (m.writeBytes a bs).byteAt k = m.byteAt k := by
  induction bs generalizing m a with
  | nil => rfl
  | cons b bs ih =>
    simp at h
    rw [Memory.writeBytes, ih (by omega), Memory.setByte_byteAt_other _ (by omega)]

/-- The bytes written are the bytes read (R44). -/
theorem Memory.writeBytes_byteAt {m : Memory} {a : Nat} {bs : List Byte} (h : a + bs.length ≤ 4 * m.length) (j : Nat) (hj : j < bs.length) :
    (m.writeBytes a bs).byteAt (a + j) = bs[j]? := by
  induction bs generalizing m a j with
  | nil => simp at hj
  | cons b bs ih =>
    simp at h hj
    rw [Memory.writeBytes]
    cases j with
    | zero => rw [Memory.writeBytes_byteAt_other (by omega), Nat.add_zero, Memory.setByte_byteAt_self _ (by omega)]; rfl
    | succ j =>
      have := ih (m := m.setByte a b) (a := a + 1) (by rw [Memory.setByte_length]; omega) j (by omega)
      rw [show a + (j + 1) = a + 1 + j by omega, this]; rfl

/-- Bytes that all exist can be read (R43). -/
theorem Memory.readBytes_isSome {m : Memory} {a n : Nat} (h : a + n ≤ 4 * m.length) : ∃ b, m.readBytes a n = some b := by
  induction n generalizing a with
  | zero => exact ⟨[], rfl⟩
  | succ n ih =>
    obtain ⟨b, hb⟩ := ih (a := a + 1) (by omega)
    have : a / 4 < m.length := by omega
    simp [Memory.readBytes, Memory.byteAt, hb, List.getElem?_eq_getElem this]

/-- Each byte read is the byte at its address (R43). -/
theorem Memory.readBytes_getElem {m : Memory} {a n : Nat} {b : List Byte} (h : m.readBytes a n = some b) (j : Nat) (hj : j < n) :
    b[j]? = m.byteAt (a + j) := by
  induction n generalizing a b j with
  | zero => omega
  | succ n ih =>
    unfold Memory.readBytes at h
    split at h
    · next b0 bs h1 h2 =>
      cases h
      cases j with
      | zero => exact h1.symm
      | succ j =>
        have := ih h2 j (by omega)
        rw [show a + (j + 1) = a + 1 + j by omega, ← this]; rfl
    · cases h

/-- The bytes of a loaded buffer are the buffer. -/
theorem byteAt_wordsOfBytes {b : List Byte} {n a : Nat} (hb : b.length = 4 * n) (ha : a < 4 * n) :
    Memory.byteAt (wordsOfBytes b) a = b[a]? := by
  obtain ⟨b0, b1, b2, b3, h0, h1, h2, h3, hw⟩ := wordsOfBytes_getElem b n (a / 4) hb (by omega)
  obtain ⟨c0, c1, c2, c3⟩ := byteOf_append b0 b1 b2 b3
  have hm : a % 4 < 4 := Nat.mod_lt _ (by decide)
  have e := Nat.div_add_mod a 4
  unfold Memory.byteAt
  rw [hw]
  generalize hk : a % 4 = k at *
  generalize a / 4 = i at *
  interval_cases k <;> subst e <;> simp_all

/-- Two reads, one after the other, are one read (R43). -/
theorem Memory.readBytes_append {m : Memory} : ∀ (n a k : Nat) (x y : List Byte), m.readBytes a n = some x →
    m.readBytes (a + n) k = some y → m.readBytes a (n + k) = some (x ++ y)
  | 0, a, k, x, y, hx, hy => by cases hx; simpa using hy
  | n + 1, a, k, x, y, hx, hy => by
    unfold Memory.readBytes at hx
    split at hx
    · next b bs h1 h2 =>
      cases hx
      have := Memory.readBytes_append n (a + 1) k bs y h2 (by rwa [show a + 1 + n = a + (n + 1) by omega])
      rw [show n + 1 + k = n + k + 1 by omega, Memory.readBytes, h1, this]
      rfl
    · cases hx

/-- Behind a first word the bytes lie four addresses further. -/
theorem Memory.readBytes_cons (w : Word) (m : Memory) :
    ∀ n a, Memory.readBytes (w :: m) (4 + a) n = m.readBytes a n
  | 0, _ => rfl
  | n + 1, a => by
    have e : Memory.byteAt (w :: m) (4 + a) = m.byteAt a := by
      simp [Memory.byteAt, show (4 + a) / 4 = a / 4 + 1 by omega, show (4 + a) % 4 = a % 4 by omega]
    simp only [Memory.readBytes, e, show 4 + a + 1 = 4 + (a + 1) by omega, Memory.readBytes_cons w m n]

/-- The bytes of the words are the bytes read from all addresses in order (R41, R43, R103). -/
theorem Memory.readBytes_all (m : Memory) : m.readBytes 0 (4 * m.length) = some (bytesOfWords m) := by
  induction m with
  | nil => rfl
  | cons w m ih =>
    rw [List.length_cons, show 4 * (m.length + 1) = 4 + 4 * m.length by omega]
    exact Memory.readBytes_append 4 0 _ (bytesOfWord w) _ rfl
      (by rw [show 0 + 4 = 4 + 0 by rfl, Memory.readBytes_cons, ih])

/-- The bytes of the words of a buffer are the buffer (R102, R103). -/
theorem bytesOfWords_wordsOfBytes {b : List Byte} {n : Nat} (hb : b.length = 4 * n) :
    bytesOfWords (wordsOfBytes b) = b := by
  have hlen := wordsOfBytes_length n b hb
  have hr := Memory.readBytes_all (wordsOfBytes b)
  have hl := Memory.readBytes_length hr
  apply List.ext_getElem?
  intro a
  by_cases ha : a < 4 * n
  · have := Memory.readBytes_getElem hr a (by omega)
    rw [Nat.zero_add] at this
    rw [this, byteAt_wordsOfBytes hb ha]
  · rw [List.getElem?_eq_none (by omega), List.getElem?_eq_none (by omega)]

/-- A buffer of `n` bytes is a number of `8n` bits (R43). -/
theorem bigEndian_lt (b : List Byte) : bigEndian b < 2 ^ (8 * b.length) := by
  induction b with
  | nil => decide
  | cons x b ih =>
    have := x.isLt
    have e : 2 ^ (8 * (b.length + 1)) = 256 * 2 ^ (8 * b.length) := by rw [Nat.mul_add, Nat.pow_add]; omega
    simp only [bigEndian, List.length_cons, e]
    generalize 2 ^ (8 * b.length) = P at *
    have : (x.toNat + 1) * P ≤ 256 * P := Nat.mul_le_mul_right _ (by omega)
    rw [Nat.add_mul] at this
    omega

/-- The bytes asked for. -/
theorem bytesOfNat_length (n v) : (bytesOfNat n v).length = n := by
  induction n with
  | zero => rfl
  | succ n ih => simp [bytesOfNat, ih]

/-- Only the low `8n` bits matter. -/
theorem bytesOfNat_add_mul (n v : Nat) (c : Nat) : bytesOfNat n (c * 2 ^ (8 * n) + v) = bytesOfNat n v := by
  induction n generalizing c v with
  | zero => rfl
  | succ n ih =>
    simp only [bytesOfNat]
    have e : c * 2 ^ (8 * (n + 1)) = (c * 256) * 2 ^ (8 * n) := by rw [Nat.mul_add, Nat.pow_add]; ring
    rw [e, ih]
    congr 1
    apply BitVec.eq_of_toNat_eq
    rw [BitVec.toNat_ofNat, BitVec.toNat_ofNat, Nat.mul_comm, Nat.mul_add_div (Nat.pow_pos (by decide))]
    omega

/-- A buffer is the bytes of its number (R43, R44). -/
theorem bytesOfNat_bigEndian (b : List Byte) : bytesOfNat b.length (bigEndian b) = b := by
  induction b with
  | nil => rfl
  | cons x b ih =>
    simp only [List.length_cons, bytesOfNat, bigEndian, bytesOfNat_add_mul, ih]
    congr 1
    apply BitVec.eq_of_toNat_eq
    rw [BitVec.toNat_ofNat, Nat.mul_comm, Nat.mul_add_div (Nat.pow_pos (by decide)), Nat.div_eq_of_lt (bigEndian_lt b)]
    have := x.isLt; omega

/-- A number is the number of its bytes (R43, R44). -/
theorem bigEndian_bytesOfNat (n v) (h : v < 2 ^ (8 * n)) : bigEndian (bytesOfNat n v) = v := by
  induction n generalizing v with
  | zero => simp at h; simp [bytesOfNat, bigEndian, h]
  | succ n ih =>
    have hp : 0 < 2 ^ (8 * n) := Nat.pow_pos (by decide)
    have e : v = (v / 2 ^ (8 * n)) * 2 ^ (8 * n) + v % 2 ^ (8 * n) := by rw [Nat.mul_comm]; exact (Nat.div_add_mod _ _).symm
    have hd : v / 2 ^ (8 * n) < 256 := by
      rw [Nat.div_lt_iff_lt_mul hp]; rw [Nat.mul_add, Nat.pow_add] at h; omega
    rw [bytesOfNat, bigEndian, bytesOfNat_length, BitVec.toNat_ofNat, Nat.mod_eq_of_lt hd]
    conv_rhs => rw [e]
    congr 1
    conv_lhs => rw [e, bytesOfNat_add_mul]
    exact ih _ (Nat.mod_lt _ hp)

end Sys2Proof.Machine
end

