-- ==== Sys2Proof/Laws/Fields.lean ====
section
/-!
SUPPORT. What the instructions are, said once: every one is CLR, LDB, STB, or GET or SET of a row of the
descriptor table of its header type. Later proofs over all instructions cite `exec_cases`, and proofs over
a command byte cite `decodeGet_row` and `decodeSet_row`, instead of naming the 89 constructors again.
-/

namespace Sys2Proof.Machine

/-- `i` is GET of row `row`, the `fid`-th of the table of `ht`. -/
structure IsGet (i : Instr) (ht : HeaderType) (fid : Nat) (row : FieldRow) : Prop where
  header : i.header = some ht
  row_eq : (fields ht)[fid]? = some row
  op : i.op = 0b100#3
  fid_eq : i.fid.toNat = fid
  exec_eq : ∀ s, exec i s = getField ht row.desc s

/-- `i` is SET of row `row`, the `fid`-th of the table of `ht`, to `v`. -/
structure IsSet (i : Instr) (ht : HeaderType) (fid : Nat) (row : FieldRow) (v : Word) : Prop where
  header : i.header = some ht
  row_eq : (fields ht)[fid]? = some row
  op : i.op = 0b101#3
  fid_eq : i.fid.toNat = fid
  value : i.valueOperand = v
  exec_eq : ∀ s, exec i s = setField ht row.desc v s

/-- Every instruction is one of the five generic commands. -/
theorem exec_cases (i : Instr) :
    i = .clr ∨ (∃ b, i = .ldb b) ∨ i = .stb ∨ (∃ ht fid row, IsGet i ht fid row) ∨
      ∃ ht fid row v, IsSet i ht fid row v := by
  cases i
  case clr => exact .inl rfl
  case ldb b => exact .inr (.inl ⟨b, rfl⟩)
  case stb => exact .inr (.inr (.inl rfl))
  all_goals first
    | exact .inr (.inr (.inr (.inl ⟨_, _, _, rfl, rfl, rfl, rfl, fun _ => rfl⟩)))
    | exact .inr (.inr (.inr (.inr ⟨_, _, _, _, rfl, rfl, rfl, rfl, rfl, fun _ => rfl⟩)))

/-- A row number below the number of rows. -/
theorem fid_lt_of_row {ht : HeaderType} {fid : Nat} {row : FieldRow} (h : (fields ht)[fid]? = some row) :
    fid < (fields ht).length := by
  obtain ⟨hl, -⟩ := List.getElem?_eq_some_iff.1 h
  exact hl

/-- `decodeGet` at a row's number is GET of that row. -/
theorem decodeGet_row {ht : HeaderType} {fid : Nat} {row : FieldRow} (h : (fields ht)[fid]? = some row) :
    ∃ i, decodeGet ht fid = .ok i ∧ IsGet i ht fid row := by
  have hl := fid_lt_of_row h
  cases ht
  · change fid < 22 at hl
    interval_cases fid <;> (cases h; exact ⟨_, rfl, rfl, rfl, rfl, rfl, fun _ => rfl⟩)
  · change fid < 4 at hl
    interval_cases fid <;> (cases h; exact ⟨_, rfl, rfl, rfl, rfl, rfl, fun _ => rfl⟩)
  · change fid < 17 at hl
    interval_cases fid <;> (cases h; exact ⟨_, rfl, rfl, rfl, rfl, rfl, fun _ => rfl⟩)

/-- `decodeSet` at a row's number is SET of that row. -/
theorem decodeSet_row {ht : HeaderType} {fid : Nat} {row : FieldRow} (v : Word)
    (h : (fields ht)[fid]? = some row) :
    ∃ i, decodeSet ht v fid = .ok i ∧ IsSet i ht fid row v := by
  have hl := fid_lt_of_row h
  cases ht
  · change fid < 22 at hl
    interval_cases fid <;> (cases h; exact ⟨_, rfl, rfl, rfl, rfl, rfl, rfl, fun _ => rfl⟩)
  · change fid < 4 at hl
    interval_cases fid <;> (cases h; exact ⟨_, rfl, rfl, rfl, rfl, rfl, rfl, fun _ => rfl⟩)
  · change fid < 17 at hl
    interval_cases fid <;> (cases h; exact ⟨_, rfl, rfl, rfl, rfl, rfl, rfl, fun _ => rfl⟩)

/-- Every row of every table is legal. -/
theorem row_legal {ht : HeaderType} {fid : Nat} {row : FieldRow} (h : (fields ht)[fid]? = some row) :
    legalPos row.desc.off row.desc.w = true ∧ row.desc.widx < ht.numWords := by
  have hall : (fields ht).all (fun r => r.desc.legal ht.numWords) = true := by cases ht <;> decide
  have hm := List.all_eq_true.1 hall row (List.mem_of_getElem? h)
  simpa [FieldDesc.legal] using hm

/-- Every row's word exists. -/
theorem row_word {s : State} {fid : Nat} {row : FieldRow} (h : (fields s.ht)[fid]? = some row) : ∃ word, s.W[row.desc.widx]? = some word :=
  ⟨_, List.getElem?_eq_getElem (by rw [s.W_length]; exact (row_legal h).2)⟩

/-- What GET of a row answers. -/
theorem IsGet.exec_next {i : Instr} {fid : Nat} {row : FieldRow} {s : State} {word : Word}
    (h : IsGet i s.ht fid row) (hw : s.W[row.desc.widx]? = some word) :
    exec i s = .next (s.respond (valueResponse (extractBits word row.desc.off row.desc.w))) := by
  simp [h.exec_eq, getField, State.readWord, hw, extract, (row_legal h.row_eq).1]

/-- What SET of a row to a value that does not fit answers. -/
theorem IsSet.exec_reject {i : Instr} {fid : Nat} {row : FieldRow} {v : Word} {s : State} {word : Word}
    (h : IsSet i s.ht fid row v) (hw : s.W[row.desc.widx]? = some word)
    (hv : 2 ^ row.desc.w ≤ v.toNat) : exec i s = .next (raiseOutOfRange s) := by
  have hl := (row_legal h.row_eq).1
  have he := (exceeds_iff (legalPos_iff.1 hl).2.1 v).2 hv
  simp [h.exec_eq, setField, State.readWord, hw, deposit, hl, he]

/-- What SET of a row to a value that fits answers. -/
theorem IsSet.exec_accept {i : Instr} {fid : Nat} {row : FieldRow} {v : Word} {s : State} {word : Word}
    (h : IsSet i s.ht fid row v) (hw : s.W[row.desc.widx]? = some word)
    (hv : v.toNat < 2 ^ row.desc.w) :
    exec i s = .next ((s.writeWord row.desc.widx
      (depositBits word row.desc.off row.desc.w v)).respond okResponse) := by
  have hl := (row_legal h.row_eq).1
  have he : exceeds row.desc.w v = false := by
    rw [Bool.eq_false_iff, Ne, exceeds_iff (legalPos_iff.1 hl).2.1]
    omega
  simp [h.exec_eq, setField, State.readWord, hw, deposit, hl, he]

/-- The command byte of GET splits into its operation code and its field identifier. -/
theorem getCmd_split {fid : Nat} (h : fid < 32) :
    (cmdOp (getCmd fid)).toNat = 4 ∧ (cmdFid (getCmd fid)).toNat = fid := by
  interval_cases fid <;> exact ⟨rfl, rfl⟩

/-- The command byte of SET splits into its operation code and its field identifier. -/
theorem setCmd_split {fid : Nat} (h : fid < 32) :
    (cmdOp (setCmd fid)).toNat = 5 ∧ (cmdFid (setCmd fid)).toNat = fid := by
  interval_cases fid <;> exact ⟨rfl, rfl⟩

/-- A table has fewer than 32 rows. -/
theorem fields_length_lt (ht : HeaderType) : (fields ht).length < 32 := by cases ht <;> decide

/-- The byte `0x80 + fid` of a row decodes to GET of that row, whatever the operand ports. -/
theorem decode_getCmd {ht : HeaderType} {fid : Nat} {row : FieldRow} (v : Word) (d : List Byte)
    (h : (fields ht)[fid]? = some row) :
    ∃ i, decode ht ⟨getCmd fid, v, d⟩ = .ok i ∧ IsGet i ht fid row := by
  obtain ⟨ho, hf⟩ := getCmd_split (Nat.lt_trans (fid_lt_of_row h) (fields_length_lt ht))
  obtain ⟨i, hd, hi⟩ := decodeGet_row h
  exact ⟨i, by simp [decode, ho, hf, hd], hi⟩

/-- The byte `0xA0 + fid` of a row decodes to SET of that row to the value port. -/
theorem decode_setCmd {ht : HeaderType} {fid : Nat} {row : FieldRow} (v : Word) (d : List Byte)
    (h : (fields ht)[fid]? = some row) :
    ∃ i, decode ht ⟨setCmd fid, v, d⟩ = .ok i ∧ IsSet i ht fid row v := by
  obtain ⟨ho, hf⟩ := setCmd_split (Nat.lt_trans (fid_lt_of_row h) (fields_length_lt ht))
  obtain ⟨i, hd, hi⟩ := decodeSet_row v h
  exact ⟨i, by simp [decode, ho, hf, hd], hi⟩

/-- What a command does never depends on the response of an earlier one (R24, R29). -/
theorem exec_rsp (i : Instr) (s : State) (r : Option Response) : exec i { s with rsp := r } = exec i s := by
  cases i <;> rfl

/-- What every command that answers a next state leaves: the header type, the port, and a response of the
right form. -/
theorem exec_frame {i : Instr} {s t : State} (h : exec i s = .next t) :
    t.ht = s.ht ∧ t.port = s.port ∧ ∃ r, t.rsp = some r ∧ r.wf s.ht = true := by
  rcases exec_cases i with rfl | ⟨b, rfl⟩ | rfl | ⟨ht', f, row, hg⟩ | ⟨ht', f, row, v', hs⟩
  · obtain rfl := clearAll_next h
    exact ⟨by simp, rfl, _, rfl, rfl⟩
  · obtain ⟨-, rfl⟩ := loadBuffer_next h
    exact ⟨by simp, rfl, _, rfl, rfl⟩
  · obtain rfl := storeBuffer_next h
    refine ⟨rfl, rfl, _, rfl, ?_⟩
    simp [Response.wf, dataResponse, bytesOfWords_length, HeaderType.numBytes]
  · rw [hg.exec_eq] at h
    obtain ⟨-, -, w, -, rfl⟩ := getField_next h
    exact ⟨rfl, rfl, _, rfl, rfl⟩
  · rw [hs.exec_eq] at h
    obtain ⟨-, -, w, -, ⟨-, rfl⟩ | ⟨-, rfl⟩⟩ := setField_next h
    · exact ⟨rfl, rfl, _, rfl, rfl⟩
    · exact ⟨by simp, rfl, _, rfl, rfl⟩

end Sys2Proof.Machine
end

