-- ==== Sys2Proof/Laws/Decode.lean ====
section
/-!
SUPPORT. What a request that decodes says of its instruction, and the reverse: the command byte and its two
parts. Later proofs about the decoder cite these and never unfold it.
-/

namespace Sys2Proof.Machine

/-- The operation code of a byte put together from its two parts (R61). -/
theorem cmdOp_append (a : BitVec 3) (b : BitVec 5) : cmdOp (a ++ b) = a := by
  revert a b; decide

/-- The field identifier of a byte put together from its two parts (R61). -/
theorem cmdFid_append (a : BitVec 3) (b : BitVec 5) : cmdFid (a ++ b) = b := by
  revert a b; decide

/-- A command byte is its two parts (R61). -/
theorem cmdOp_append_cmdFid (c : BitVec 8) : cmdOp c ++ cmdFid c = c := by
  revert c; decide

/-- The operation code as a number (R61). -/
theorem cmdOp_toNat (c : BitVec 8) : (cmdOp c).toNat = c.toNat / 32 := by
  simp [cmdOp, Nat.shiftRight_eq_div_pow]; omega

/-- The field identifier as a number (R61). -/
theorem cmdFid_toNat (c : BitVec 8) : (cmdFid c).toNat = c.toNat % 32 := by
  simp [cmdFid]

/-- What a GET that decodes is. -/
theorem decodeGet_inv (ht fid i) (h : decodeGet ht fid = .ok i) : i.wf ht = true ∧ i.op = 0b100#3 ∧ i.fid.toNat = fid := by
  cases ht
  · change decodeGetIpv4 fid = _ at h
    unfold decodeGetIpv4 at h
    split at h <;> first | (cases h; done) | (cases h; exact ⟨rfl, rfl, rfl⟩)
  · change decodeGetUdp fid = _ at h
    unfold decodeGetUdp at h
    split at h <;> first | (cases h; done) | (cases h; exact ⟨rfl, rfl, rfl⟩)
  · change decodeGetTcp fid = _ at h
    unfold decodeGetTcp at h
    split at h <;> first | (cases h; done) | (cases h; exact ⟨rfl, rfl, rfl⟩)

/-- What a SET that decodes is. -/
theorem decodeSet_inv (ht fid v i) (h : decodeSet ht v fid = .ok i) : i.wf ht = true ∧ i.op = 0b101#3 ∧ i.fid.toNat = fid ∧ i.valueOperand = v := by
  cases ht
  · change decodeSetIpv4 v fid = _ at h
    unfold decodeSetIpv4 at h
    split at h <;> first | (cases h; done) | (cases h; exact ⟨rfl, rfl, rfl, rfl⟩)
  · change decodeSetUdp v fid = _ at h
    unfold decodeSetUdp at h
    split at h <;> first | (cases h; done) | (cases h; exact ⟨rfl, rfl, rfl, rfl⟩)
  · change decodeSetTcp v fid = _ at h
    unfold decodeSetTcp at h
    split at h <;> first | (cases h; done) | (cases h; exact ⟨rfl, rfl, rfl, rfl⟩)

/-- What a request that decodes says of its instruction. -/
theorem decode_inv {ht r i} (h : decode ht r = .ok i) :
    i.wf ht = true ∧ i.op = cmdOp r.cmd ∧ i.fid = cmdFid r.cmd ∧
      (i.op = 0b101#3 → i.valueOperand = r.value) ∧ (i.op = 0b010#3 → i = .ldb r.data) := by
  unfold decode at h
  simp only at h
  split at h
  · next ho =>
    split at h <;> cases h
    next hf => exact ⟨rfl, BitVec.eq_of_toNat_eq ho.symm, BitVec.eq_of_toNat_eq hf.symm, (fun h => by cases h), (fun h => by cases h)⟩
  · next ho =>
    split at h
    · next hf =>
      split at h <;> cases h
      next hd => exact ⟨by simpa [Instr.wf] using hd, BitVec.eq_of_toNat_eq ho.symm, BitVec.eq_of_toNat_eq hf.symm, (fun h => by cases h), fun _ => rfl⟩
    · cases h
  · next ho =>
    split at h <;> cases h
    next hf => exact ⟨rfl, BitVec.eq_of_toNat_eq ho.symm, BitVec.eq_of_toNat_eq hf.symm, (fun h => by cases h), (fun h => by cases h)⟩
  · next ho =>
    obtain ⟨h1, h2, h3⟩ := decodeGet_inv _ _ _ h
    refine ⟨h1, h2.trans (BitVec.eq_of_toNat_eq ho.symm), BitVec.eq_of_toNat_eq h3, ?_, ?_⟩ <;> (rw [h2]; intro h; cases h)
  · next ho =>
    obtain ⟨h1, h2, h3, h4⟩ := decodeSet_inv _ _ _ _ h
    refine ⟨h1, h2.trans (BitVec.eq_of_toNat_eq ho.symm), BitVec.eq_of_toNat_eq h3, fun _ => h4, ?_⟩
    rw [h2]; intro h; cases h
  · cases h

end Sys2Proof.Machine
end

