-- ==== Sys2Proof/Laws/PerInstr.lean ====
section
/-!
SUPPORT. Families of statements about each instruction as syntax, one lemma per constructor.
-/

namespace Sys2Proof.Laws

/-- The command byte of an instruction carries its operation code in bits 7 to 5 and its field identifier
in bits 4 to 0 (spec/30_encoding.md R61), and is neither all zeros nor all ones (R62, last sentence). -/
def CommandByte.Statement (i : Instr) : Prop :=
  ∀ ht, cmdOp (encode ht i).cmd = i.op ∧ cmdFid (encode ht i).cmd = i.fid
    ∧ (encode ht i).cmd ≠ 0x00#8 ∧ (encode ht i).cmd ≠ 0xFF#8

/-- The statement from the operation code and the field identifier as numerals. -/
theorem CommandByte.ofCodes {i : Instr} (op : BitVec 3) (fid : BitVec 5) (ho : i.op = op) (hf : i.fid = fid)
    (h : cmdOp (op ++ fid) = op ∧ cmdFid (op ++ fid) = fid ∧ op ++ fid ≠ 0x00#8 ∧ op ++ fid ≠ 0xFF#8) :
    CommandByte.Statement i := by
  subst ho hf
  exact fun _ => h

theorem CommandByte.clr : CommandByte.Statement .clr :=
  CommandByte.ofCodes 0b001#3 0#5 rfl rfl (by decide)
theorem CommandByte.ldb (data : List Byte) : CommandByte.Statement (.ldb data) :=
  CommandByte.ofCodes 0b010#3 0#5 rfl rfl (by decide)
theorem CommandByte.stb : CommandByte.Statement .stb :=
  CommandByte.ofCodes 0b011#3 0#5 rfl rfl (by decide)
theorem CommandByte.getIpv4Version : CommandByte.Statement .getIpv4Version :=
  CommandByte.ofCodes 0b100#3 0#5 rfl rfl (by decide)
theorem CommandByte.setIpv4Version (value : Word) : CommandByte.Statement (.setIpv4Version value) :=
  CommandByte.ofCodes 0b101#3 0#5 rfl rfl (by decide)
theorem CommandByte.getIpv4Ihl : CommandByte.Statement .getIpv4Ihl :=
  CommandByte.ofCodes 0b100#3 1#5 rfl rfl (by decide)
theorem CommandByte.setIpv4Ihl (value : Word) : CommandByte.Statement (.setIpv4Ihl value) :=
  CommandByte.ofCodes 0b101#3 1#5 rfl rfl (by decide)
theorem CommandByte.getIpv4Tos : CommandByte.Statement .getIpv4Tos :=
  CommandByte.ofCodes 0b100#3 2#5 rfl rfl (by decide)
theorem CommandByte.setIpv4Tos (value : Word) : CommandByte.Statement (.setIpv4Tos value) :=
  CommandByte.ofCodes 0b101#3 2#5 rfl rfl (by decide)
theorem CommandByte.getIpv4Precedence : CommandByte.Statement .getIpv4Precedence :=
  CommandByte.ofCodes 0b100#3 3#5 rfl rfl (by decide)
theorem CommandByte.setIpv4Precedence (value : Word) : CommandByte.Statement (.setIpv4Precedence value) :=
  CommandByte.ofCodes 0b101#3 3#5 rfl rfl (by decide)
theorem CommandByte.getIpv4Delay : CommandByte.Statement .getIpv4Delay :=
  CommandByte.ofCodes 0b100#3 4#5 rfl rfl (by decide)
theorem CommandByte.setIpv4Delay (value : Word) : CommandByte.Statement (.setIpv4Delay value) :=
  CommandByte.ofCodes 0b101#3 4#5 rfl rfl (by decide)
theorem CommandByte.getIpv4Throughput : CommandByte.Statement .getIpv4Throughput :=
  CommandByte.ofCodes 0b100#3 5#5 rfl rfl (by decide)
theorem CommandByte.setIpv4Throughput (value : Word) : CommandByte.Statement (.setIpv4Throughput value) :=
  CommandByte.ofCodes 0b101#3 5#5 rfl rfl (by decide)
theorem CommandByte.getIpv4Reliability : CommandByte.Statement .getIpv4Reliability :=
  CommandByte.ofCodes 0b100#3 6#5 rfl rfl (by decide)
theorem CommandByte.setIpv4Reliability (value : Word) : CommandByte.Statement (.setIpv4Reliability value) :=
  CommandByte.ofCodes 0b101#3 6#5 rfl rfl (by decide)
theorem CommandByte.getIpv4TosRsvd : CommandByte.Statement .getIpv4TosRsvd :=
  CommandByte.ofCodes 0b100#3 7#5 rfl rfl (by decide)
theorem CommandByte.setIpv4TosRsvd (value : Word) : CommandByte.Statement (.setIpv4TosRsvd value) :=
  CommandByte.ofCodes 0b101#3 7#5 rfl rfl (by decide)
theorem CommandByte.getIpv4TotalLength : CommandByte.Statement .getIpv4TotalLength :=
  CommandByte.ofCodes 0b100#3 8#5 rfl rfl (by decide)
theorem CommandByte.setIpv4TotalLength (value : Word) : CommandByte.Statement (.setIpv4TotalLength value) :=
  CommandByte.ofCodes 0b101#3 8#5 rfl rfl (by decide)
theorem CommandByte.getIpv4Identification : CommandByte.Statement .getIpv4Identification :=
  CommandByte.ofCodes 0b100#3 9#5 rfl rfl (by decide)
theorem CommandByte.setIpv4Identification (value : Word) : CommandByte.Statement (.setIpv4Identification value) :=
  CommandByte.ofCodes 0b101#3 9#5 rfl rfl (by decide)
theorem CommandByte.getIpv4Flags : CommandByte.Statement .getIpv4Flags :=
  CommandByte.ofCodes 0b100#3 10#5 rfl rfl (by decide)
theorem CommandByte.setIpv4Flags (value : Word) : CommandByte.Statement (.setIpv4Flags value) :=
  CommandByte.ofCodes 0b101#3 10#5 rfl rfl (by decide)
theorem CommandByte.getIpv4FlagsRsvd : CommandByte.Statement .getIpv4FlagsRsvd :=
  CommandByte.ofCodes 0b100#3 11#5 rfl rfl (by decide)
theorem CommandByte.setIpv4FlagsRsvd (value : Word) : CommandByte.Statement (.setIpv4FlagsRsvd value) :=
  CommandByte.ofCodes 0b101#3 11#5 rfl rfl (by decide)
theorem CommandByte.getIpv4Df : CommandByte.Statement .getIpv4Df :=
  CommandByte.ofCodes 0b100#3 12#5 rfl rfl (by decide)
theorem CommandByte.setIpv4Df (value : Word) : CommandByte.Statement (.setIpv4Df value) :=
  CommandByte.ofCodes 0b101#3 12#5 rfl rfl (by decide)
theorem CommandByte.getIpv4Mf : CommandByte.Statement .getIpv4Mf :=
  CommandByte.ofCodes 0b100#3 13#5 rfl rfl (by decide)
theorem CommandByte.setIpv4Mf (value : Word) : CommandByte.Statement (.setIpv4Mf value) :=
  CommandByte.ofCodes 0b101#3 13#5 rfl rfl (by decide)
theorem CommandByte.getIpv4FragmentOffset : CommandByte.Statement .getIpv4FragmentOffset :=
  CommandByte.ofCodes 0b100#3 14#5 rfl rfl (by decide)
theorem CommandByte.setIpv4FragmentOffset (value : Word) : CommandByte.Statement (.setIpv4FragmentOffset value) :=
  CommandByte.ofCodes 0b101#3 14#5 rfl rfl (by decide)
theorem CommandByte.getIpv4Ttl : CommandByte.Statement .getIpv4Ttl :=
  CommandByte.ofCodes 0b100#3 15#5 rfl rfl (by decide)
theorem CommandByte.setIpv4Ttl (value : Word) : CommandByte.Statement (.setIpv4Ttl value) :=
  CommandByte.ofCodes 0b101#3 15#5 rfl rfl (by decide)
theorem CommandByte.getIpv4Protocol : CommandByte.Statement .getIpv4Protocol :=
  CommandByte.ofCodes 0b100#3 16#5 rfl rfl (by decide)
theorem CommandByte.setIpv4Protocol (value : Word) : CommandByte.Statement (.setIpv4Protocol value) :=
  CommandByte.ofCodes 0b101#3 16#5 rfl rfl (by decide)
theorem CommandByte.getIpv4HeaderChecksum : CommandByte.Statement .getIpv4HeaderChecksum :=
  CommandByte.ofCodes 0b100#3 17#5 rfl rfl (by decide)
theorem CommandByte.setIpv4HeaderChecksum (value : Word) : CommandByte.Statement (.setIpv4HeaderChecksum value) :=
  CommandByte.ofCodes 0b101#3 17#5 rfl rfl (by decide)
theorem CommandByte.getIpv4SourceAddress : CommandByte.Statement .getIpv4SourceAddress :=
  CommandByte.ofCodes 0b100#3 18#5 rfl rfl (by decide)
theorem CommandByte.setIpv4SourceAddress (value : Word) : CommandByte.Statement (.setIpv4SourceAddress value) :=
  CommandByte.ofCodes 0b101#3 18#5 rfl rfl (by decide)
theorem CommandByte.getIpv4DestinationAddress : CommandByte.Statement .getIpv4DestinationAddress :=
  CommandByte.ofCodes 0b100#3 19#5 rfl rfl (by decide)
theorem CommandByte.setIpv4DestinationAddress (value : Word) : CommandByte.Statement (.setIpv4DestinationAddress value) :=
  CommandByte.ofCodes 0b101#3 19#5 rfl rfl (by decide)
theorem CommandByte.getIpv4Options : CommandByte.Statement .getIpv4Options :=
  CommandByte.ofCodes 0b100#3 20#5 rfl rfl (by decide)
theorem CommandByte.setIpv4Options (value : Word) : CommandByte.Statement (.setIpv4Options value) :=
  CommandByte.ofCodes 0b101#3 20#5 rfl rfl (by decide)
theorem CommandByte.getIpv4Padding : CommandByte.Statement .getIpv4Padding :=
  CommandByte.ofCodes 0b100#3 21#5 rfl rfl (by decide)
theorem CommandByte.setIpv4Padding (value : Word) : CommandByte.Statement (.setIpv4Padding value) :=
  CommandByte.ofCodes 0b101#3 21#5 rfl rfl (by decide)
theorem CommandByte.getUdpSourcePort : CommandByte.Statement .getUdpSourcePort :=
  CommandByte.ofCodes 0b100#3 0#5 rfl rfl (by decide)
theorem CommandByte.setUdpSourcePort (value : Word) : CommandByte.Statement (.setUdpSourcePort value) :=
  CommandByte.ofCodes 0b101#3 0#5 rfl rfl (by decide)
theorem CommandByte.getUdpDestinationPort : CommandByte.Statement .getUdpDestinationPort :=
  CommandByte.ofCodes 0b100#3 1#5 rfl rfl (by decide)
theorem CommandByte.setUdpDestinationPort (value : Word) : CommandByte.Statement (.setUdpDestinationPort value) :=
  CommandByte.ofCodes 0b101#3 1#5 rfl rfl (by decide)
theorem CommandByte.getUdpLength : CommandByte.Statement .getUdpLength :=
  CommandByte.ofCodes 0b100#3 2#5 rfl rfl (by decide)
theorem CommandByte.setUdpLength (value : Word) : CommandByte.Statement (.setUdpLength value) :=
  CommandByte.ofCodes 0b101#3 2#5 rfl rfl (by decide)
theorem CommandByte.getUdpChecksum : CommandByte.Statement .getUdpChecksum :=
  CommandByte.ofCodes 0b100#3 3#5 rfl rfl (by decide)
theorem CommandByte.setUdpChecksum (value : Word) : CommandByte.Statement (.setUdpChecksum value) :=
  CommandByte.ofCodes 0b101#3 3#5 rfl rfl (by decide)
theorem CommandByte.getTcpSourcePort : CommandByte.Statement .getTcpSourcePort :=
  CommandByte.ofCodes 0b100#3 0#5 rfl rfl (by decide)
theorem CommandByte.setTcpSourcePort (value : Word) : CommandByte.Statement (.setTcpSourcePort value) :=
  CommandByte.ofCodes 0b101#3 0#5 rfl rfl (by decide)
theorem CommandByte.getTcpDestinationPort : CommandByte.Statement .getTcpDestinationPort :=
  CommandByte.ofCodes 0b100#3 1#5 rfl rfl (by decide)
theorem CommandByte.setTcpDestinationPort (value : Word) : CommandByte.Statement (.setTcpDestinationPort value) :=
  CommandByte.ofCodes 0b101#3 1#5 rfl rfl (by decide)
theorem CommandByte.getTcpSequenceNumber : CommandByte.Statement .getTcpSequenceNumber :=
  CommandByte.ofCodes 0b100#3 2#5 rfl rfl (by decide)
theorem CommandByte.setTcpSequenceNumber (value : Word) : CommandByte.Statement (.setTcpSequenceNumber value) :=
  CommandByte.ofCodes 0b101#3 2#5 rfl rfl (by decide)
theorem CommandByte.getTcpAcknowledgmentNumber : CommandByte.Statement .getTcpAcknowledgmentNumber :=
  CommandByte.ofCodes 0b100#3 3#5 rfl rfl (by decide)
theorem CommandByte.setTcpAcknowledgmentNumber (value : Word) : CommandByte.Statement (.setTcpAcknowledgmentNumber value) :=
  CommandByte.ofCodes 0b101#3 3#5 rfl rfl (by decide)
theorem CommandByte.getTcpDataOffset : CommandByte.Statement .getTcpDataOffset :=
  CommandByte.ofCodes 0b100#3 4#5 rfl rfl (by decide)
theorem CommandByte.setTcpDataOffset (value : Word) : CommandByte.Statement (.setTcpDataOffset value) :=
  CommandByte.ofCodes 0b101#3 4#5 rfl rfl (by decide)
theorem CommandByte.getTcpReserved : CommandByte.Statement .getTcpReserved :=
  CommandByte.ofCodes 0b100#3 5#5 rfl rfl (by decide)
theorem CommandByte.setTcpReserved (value : Word) : CommandByte.Statement (.setTcpReserved value) :=
  CommandByte.ofCodes 0b101#3 5#5 rfl rfl (by decide)
theorem CommandByte.getTcpCwr : CommandByte.Statement .getTcpCwr :=
  CommandByte.ofCodes 0b100#3 6#5 rfl rfl (by decide)
theorem CommandByte.setTcpCwr (value : Word) : CommandByte.Statement (.setTcpCwr value) :=
  CommandByte.ofCodes 0b101#3 6#5 rfl rfl (by decide)
theorem CommandByte.getTcpEce : CommandByte.Statement .getTcpEce :=
  CommandByte.ofCodes 0b100#3 7#5 rfl rfl (by decide)
theorem CommandByte.setTcpEce (value : Word) : CommandByte.Statement (.setTcpEce value) :=
  CommandByte.ofCodes 0b101#3 7#5 rfl rfl (by decide)
theorem CommandByte.getTcpUrg : CommandByte.Statement .getTcpUrg :=
  CommandByte.ofCodes 0b100#3 8#5 rfl rfl (by decide)
theorem CommandByte.setTcpUrg (value : Word) : CommandByte.Statement (.setTcpUrg value) :=
  CommandByte.ofCodes 0b101#3 8#5 rfl rfl (by decide)
theorem CommandByte.getTcpAck : CommandByte.Statement .getTcpAck :=
  CommandByte.ofCodes 0b100#3 9#5 rfl rfl (by decide)
theorem CommandByte.setTcpAck (value : Word) : CommandByte.Statement (.setTcpAck value) :=
  CommandByte.ofCodes 0b101#3 9#5 rfl rfl (by decide)
theorem CommandByte.getTcpPsh : CommandByte.Statement .getTcpPsh :=
  CommandByte.ofCodes 0b100#3 10#5 rfl rfl (by decide)
theorem CommandByte.setTcpPsh (value : Word) : CommandByte.Statement (.setTcpPsh value) :=
  CommandByte.ofCodes 0b101#3 10#5 rfl rfl (by decide)
theorem CommandByte.getTcpRst : CommandByte.Statement .getTcpRst :=
  CommandByte.ofCodes 0b100#3 11#5 rfl rfl (by decide)
theorem CommandByte.setTcpRst (value : Word) : CommandByte.Statement (.setTcpRst value) :=
  CommandByte.ofCodes 0b101#3 11#5 rfl rfl (by decide)
theorem CommandByte.getTcpSyn : CommandByte.Statement .getTcpSyn :=
  CommandByte.ofCodes 0b100#3 12#5 rfl rfl (by decide)
theorem CommandByte.setTcpSyn (value : Word) : CommandByte.Statement (.setTcpSyn value) :=
  CommandByte.ofCodes 0b101#3 12#5 rfl rfl (by decide)
theorem CommandByte.getTcpFin : CommandByte.Statement .getTcpFin :=
  CommandByte.ofCodes 0b100#3 13#5 rfl rfl (by decide)
theorem CommandByte.setTcpFin (value : Word) : CommandByte.Statement (.setTcpFin value) :=
  CommandByte.ofCodes 0b101#3 13#5 rfl rfl (by decide)
theorem CommandByte.getTcpWindow : CommandByte.Statement .getTcpWindow :=
  CommandByte.ofCodes 0b100#3 14#5 rfl rfl (by decide)
theorem CommandByte.setTcpWindow (value : Word) : CommandByte.Statement (.setTcpWindow value) :=
  CommandByte.ofCodes 0b101#3 14#5 rfl rfl (by decide)
theorem CommandByte.getTcpChecksum : CommandByte.Statement .getTcpChecksum :=
  CommandByte.ofCodes 0b100#3 15#5 rfl rfl (by decide)
theorem CommandByte.setTcpChecksum (value : Word) : CommandByte.Statement (.setTcpChecksum value) :=
  CommandByte.ofCodes 0b101#3 15#5 rfl rfl (by decide)
theorem CommandByte.getTcpUrgentPointer : CommandByte.Statement .getTcpUrgentPointer :=
  CommandByte.ofCodes 0b100#3 16#5 rfl rfl (by decide)
theorem CommandByte.setTcpUrgentPointer (value : Word) : CommandByte.Statement (.setTcpUrgentPointer value) :=
  CommandByte.ofCodes 0b101#3 16#5 rfl rfl (by decide)

end Sys2Proof.Laws
end

