-- ==== Sys2Proof/Tests/Slice0.lean ====
section
/-!
SUPPORT. The model's own tests, each a named theorem. Their expected values are those of
spec/95_test_vectors.md (the part is named), of spec/opcode_table.json, or of the rule that is named; none was
taken from the model. After them, for each statement with hypotheses, a concrete state and operands that meet
them (`witness_…`).
-/

namespace Sys2Proof.Tests

open Sys2Proof Sys2Proof.Machine

/-- An instance with given words, an idle port and no response. -/
def inst (ht : HeaderType) (W : Memory) : State := ⟨Container.ofWords ht W, [], none⟩

/-- The words of a zero container. -/
def zeros (ht : HeaderType) : Memory := List.replicate ht.numWords 0

/-- One cycle in which a command byte with its operand ports is presented: the words and the response after. -/
def cycle (ht : HeaderType) (W : Memory) (cmd : BitVec 8) (value : Word) (data : List Byte) :
    Option (Memory × Option Response) :=
  match step ⟨Container.ofWords ht W, [⟨false, true, ⟨cmd, value, data⟩⟩], none⟩ with
  | .next t => some (t.W, t.rsp)
  | .fault _ => none
  | .refused _ => none

/-- One SET or GET or other command without a buffer operand. -/
def cmd (ht : HeaderType) (W : Memory) (c : BitVec 8) (value : Word) : Option (Memory × Option Response) :=
  cycle ht W c value []

/-- Why the presented command has no step. -/
def why (ht : HeaderType) (c : BitVec 8) (data : List Byte) : Option Refusal :=
  match step ⟨Container.zero ht, [⟨false, true, ⟨c, 0, data⟩⟩], none⟩ with
  | .next _ => none
  | .fault _ => none
  | .refused r => some r

/-- What a command byte decodes to, value operand 5, buffer operand empty. -/
def dec (ht : HeaderType) (c : BitVec 8) : Option Instr := (decode ht ⟨c, 5, []⟩).toOption

/-- The words of the pattern columns (d) of spec/95_test_vectors.md F1 to F3. -/
def pat (ht : HeaderType) : Memory :=
  [0x12345678#32, 0x9ABCDEF0#32, 0x0F1E2D3C#32, 0x4B5A6978#32, 0x8796A5B4#32, 0xC3D2E1F0#32].take ht.numWords

/-- A container with every bit set. -/
def ones (ht : HeaderType) : Memory := List.replicate ht.numWords 0xFFFFFFFF#32

/-- The container of the pattern words. -/
def patC (ht : HeaderType) : Container := Container.ofWords ht (pat ht)

/-! ### Well-formedness: what each check refuses -/

theorem test_wf_width_zero : legalPos 0 0 = false := by decide
theorem test_wf_width_33 : legalPos 0 33 = false := by decide
theorem test_wf_offset_32 : legalPos 32 1 = false := by decide
theorem test_wf_field_past_word : legalPos 20 13 = false ∧ legalPos 19 13 = true := by decide
theorem test_wf_whole_word_and_last_bit : legalPos 0 32 = true ∧ legalPos 31 1 = true := by decide
theorem test_wf_field_past_container : FieldDesc.legal 5 ⟨5, 0, 1⟩ = false ∧ FieldDesc.legal 5 ⟨4, 0, 1⟩ = true := by
  decide

/-- Two leaf fields that share wire bit 3. -/
theorem test_wf_layout_overlap :
    Layout.wf ⟨1, [⟨"A", .leaf, ⟨0, 0, 4⟩⟩, ⟨"B", .leaf, ⟨0, 3, 2⟩⟩]⟩ = false := by decide

/-- A composite with a gap between its members, without members, with a member that has no row, and with a
composite member. -/
theorem test_wf_layout_composite :
    Layout.wf ⟨1, [⟨"C", .composite [1, 2], ⟨0, 0, 5⟩⟩, ⟨"A", .leaf, ⟨0, 0, 2⟩⟩, ⟨"B", .leaf, ⟨0, 3, 2⟩⟩]⟩ = false ∧
    Layout.wf ⟨1, [⟨"C", .composite [], ⟨0, 0, 5⟩⟩]⟩ = false ∧
    Layout.wf ⟨1, [⟨"C", .composite [1], ⟨0, 0, 5⟩⟩]⟩ = false ∧
    Layout.wf ⟨1, [⟨"C", .composite [0], ⟨0, 0, 5⟩⟩]⟩ = false ∧
    Layout.wf ⟨1, [⟨"C", .composite [1, 2], ⟨0, 0, 5⟩⟩, ⟨"A", .leaf, ⟨0, 0, 3⟩⟩, ⟨"B", .leaf, ⟨0, 3, 2⟩⟩]⟩ = true := by
  decide

/-- A word whose leaf fields leave wire bit 31 uncovered. -/
theorem test_wf_layout_cover : Layout.covers ⟨1, [⟨"A", .leaf, ⟨0, 0, 31⟩⟩]⟩ = false := by decide

theorem test_wf_request_size :
    Request.wf .udp ⟨0x40#8, 0, List.replicate 7 0⟩ = false ∧
    Request.wf .udp ⟨0x40#8, 0, List.replicate 8 0⟩ = true := by decide

theorem test_wf_instr_of_another_header :
    Instr.wf .ipv4 .getUdpLength = false ∧ Instr.wf .udp .getUdpLength = true := by decide

theorem test_wf_instr_buffer_size :
    Instr.wf .udp (.ldb (List.replicate 9 0)) = false ∧ Instr.wf .udp (.ldb (List.replicate 8 0)) = true := by
  decide

/-! ### Decoding: every row of spec/opcode_table.json by its `encoding` column, written out -/

theorem test_decode_container_commands :
    dec .ipv4 0b00100000#8 = some .clr ∧ dec .udp 0b01100000#8 = some .stb ∧
    (decode .udp ⟨0b01000000#8, 0, [0, 1, 2, 3, 4, 5, 6, 7]⟩).toOption = some (.ldb [0, 1, 2, 3, 4, 5, 6, 7]) := by
  decide

theorem test_decode_ipv4_get_1 :
    dec .ipv4 0b10000000#8 = some .getIpv4Version ∧
    dec .ipv4 0b10000001#8 = some .getIpv4Ihl ∧
    dec .ipv4 0b10000010#8 = some .getIpv4Tos ∧
    dec .ipv4 0b10000011#8 = some .getIpv4Precedence ∧
    dec .ipv4 0b10000100#8 = some .getIpv4Delay ∧
    dec .ipv4 0b10000101#8 = some .getIpv4Throughput ∧
    dec .ipv4 0b10000110#8 = some .getIpv4Reliability ∧
    dec .ipv4 0b10000111#8 = some .getIpv4TosRsvd ∧
    dec .ipv4 0b10001000#8 = some .getIpv4TotalLength ∧
    dec .ipv4 0b10001001#8 = some .getIpv4Identification ∧
    dec .ipv4 0b10001010#8 = some .getIpv4Flags := by decide

theorem test_decode_ipv4_get_2 :
    dec .ipv4 0b10001011#8 = some .getIpv4FlagsRsvd ∧
    dec .ipv4 0b10001100#8 = some .getIpv4Df ∧
    dec .ipv4 0b10001101#8 = some .getIpv4Mf ∧
    dec .ipv4 0b10001110#8 = some .getIpv4FragmentOffset ∧
    dec .ipv4 0b10001111#8 = some .getIpv4Ttl ∧
    dec .ipv4 0b10010000#8 = some .getIpv4Protocol ∧
    dec .ipv4 0b10010001#8 = some .getIpv4HeaderChecksum ∧
    dec .ipv4 0b10010010#8 = some .getIpv4SourceAddress ∧
    dec .ipv4 0b10010011#8 = some .getIpv4DestinationAddress ∧
    dec .ipv4 0b10010100#8 = some .getIpv4Options ∧
    dec .ipv4 0b10010101#8 = some .getIpv4Padding := by decide

theorem test_decode_ipv4_set_1 :
    dec .ipv4 0b10100000#8 = some (.setIpv4Version 5) ∧
    dec .ipv4 0b10100001#8 = some (.setIpv4Ihl 5) ∧
    dec .ipv4 0b10100010#8 = some (.setIpv4Tos 5) ∧
    dec .ipv4 0b10100011#8 = some (.setIpv4Precedence 5) ∧
    dec .ipv4 0b10100100#8 = some (.setIpv4Delay 5) ∧
    dec .ipv4 0b10100101#8 = some (.setIpv4Throughput 5) ∧
    dec .ipv4 0b10100110#8 = some (.setIpv4Reliability 5) ∧
    dec .ipv4 0b10100111#8 = some (.setIpv4TosRsvd 5) ∧
    dec .ipv4 0b10101000#8 = some (.setIpv4TotalLength 5) ∧
    dec .ipv4 0b10101001#8 = some (.setIpv4Identification 5) ∧
    dec .ipv4 0b10101010#8 = some (.setIpv4Flags 5) := by decide

theorem test_decode_ipv4_set_2 :
    dec .ipv4 0b10101011#8 = some (.setIpv4FlagsRsvd 5) ∧
    dec .ipv4 0b10101100#8 = some (.setIpv4Df 5) ∧
    dec .ipv4 0b10101101#8 = some (.setIpv4Mf 5) ∧
    dec .ipv4 0b10101110#8 = some (.setIpv4FragmentOffset 5) ∧
    dec .ipv4 0b10101111#8 = some (.setIpv4Ttl 5) ∧
    dec .ipv4 0b10110000#8 = some (.setIpv4Protocol 5) ∧
    dec .ipv4 0b10110001#8 = some (.setIpv4HeaderChecksum 5) ∧
    dec .ipv4 0b10110010#8 = some (.setIpv4SourceAddress 5) ∧
    dec .ipv4 0b10110011#8 = some (.setIpv4DestinationAddress 5) ∧
    dec .ipv4 0b10110100#8 = some (.setIpv4Options 5) ∧
    dec .ipv4 0b10110101#8 = some (.setIpv4Padding 5) := by decide

theorem test_decode_udp_get :
    dec .udp 0b10000000#8 = some .getUdpSourcePort ∧
    dec .udp 0b10000001#8 = some .getUdpDestinationPort ∧
    dec .udp 0b10000010#8 = some .getUdpLength ∧
    dec .udp 0b10000011#8 = some .getUdpChecksum := by decide

theorem test_decode_udp_set :
    dec .udp 0b10100000#8 = some (.setUdpSourcePort 5) ∧
    dec .udp 0b10100001#8 = some (.setUdpDestinationPort 5) ∧
    dec .udp 0b10100010#8 = some (.setUdpLength 5) ∧
    dec .udp 0b10100011#8 = some (.setUdpChecksum 5) := by decide

theorem test_decode_tcp_get_1 :
    dec .tcp 0b10000000#8 = some .getTcpSourcePort ∧
    dec .tcp 0b10000001#8 = some .getTcpDestinationPort ∧
    dec .tcp 0b10000010#8 = some .getTcpSequenceNumber ∧
    dec .tcp 0b10000011#8 = some .getTcpAcknowledgmentNumber ∧
    dec .tcp 0b10000100#8 = some .getTcpDataOffset ∧
    dec .tcp 0b10000101#8 = some .getTcpReserved ∧
    dec .tcp 0b10000110#8 = some .getTcpCwr ∧
    dec .tcp 0b10000111#8 = some .getTcpEce ∧
    dec .tcp 0b10001000#8 = some .getTcpUrg ∧
    dec .tcp 0b10001001#8 = some .getTcpAck ∧
    dec .tcp 0b10001010#8 = some .getTcpPsh := by decide

theorem test_decode_tcp_get_2 :
    dec .tcp 0b10001011#8 = some .getTcpRst ∧
    dec .tcp 0b10001100#8 = some .getTcpSyn ∧
    dec .tcp 0b10001101#8 = some .getTcpFin ∧
    dec .tcp 0b10001110#8 = some .getTcpWindow ∧
    dec .tcp 0b10001111#8 = some .getTcpChecksum ∧
    dec .tcp 0b10010000#8 = some .getTcpUrgentPointer := by decide

theorem test_decode_tcp_set_1 :
    dec .tcp 0b10100000#8 = some (.setTcpSourcePort 5) ∧
    dec .tcp 0b10100001#8 = some (.setTcpDestinationPort 5) ∧
    dec .tcp 0b10100010#8 = some (.setTcpSequenceNumber 5) ∧
    dec .tcp 0b10100011#8 = some (.setTcpAcknowledgmentNumber 5) ∧
    dec .tcp 0b10100100#8 = some (.setTcpDataOffset 5) ∧
    dec .tcp 0b10100101#8 = some (.setTcpReserved 5) ∧
    dec .tcp 0b10100110#8 = some (.setTcpCwr 5) ∧
    dec .tcp 0b10100111#8 = some (.setTcpEce 5) ∧
    dec .tcp 0b10101000#8 = some (.setTcpUrg 5) ∧
    dec .tcp 0b10101001#8 = some (.setTcpAck 5) ∧
    dec .tcp 0b10101010#8 = some (.setTcpPsh 5) := by decide

theorem test_decode_tcp_set_2 :
    dec .tcp 0b10101011#8 = some (.setTcpRst 5) ∧
    dec .tcp 0b10101100#8 = some (.setTcpSyn 5) ∧
    dec .tcp 0b10101101#8 = some (.setTcpFin 5) ∧
    dec .tcp 0b10101110#8 = some (.setTcpWindow 5) ∧
    dec .tcp 0b10101111#8 = some (.setTcpChecksum 5) ∧
    dec .tcp 0b10110000#8 = some (.setTcpUrgentPointer 5) := by decide

/-- The bytes that the table leaves over are refused by name (part C). -/
theorem test_decode_reserved :
    [0x00#8, 0xC0#8, 0xE0#8, 0xFF#8].map (fun c => why .tcp c []) =
      List.replicate 4 (some (.reserved .reservedOp)) ∧
    [0x21#8, 0x5F#8, 0x61#8].map (fun c => why .ipv4 c []) =
      List.replicate 3 (some (.reserved .nonzeroFid)) ∧
    [0x96#8, 0xBF#8].map (fun c => why .ipv4 c []) = List.replicate 2 (some (.reserved .noSuchField)) ∧
    [0x84#8, 0xA4#8].map (fun c => why .udp c []) = List.replicate 2 (some (.reserved .noSuchField)) ∧
    why .tcp 0x91#8 [] = some (.reserved .noSuchField) := by decide

/-- A buffer of another size cannot be presented (R65, D18). -/
theorem test_decode_short_buffer : why .udp 0x40#8 [0, 0x35, 0xC0] = some (.reserved .bufferSize) := by decide

/-- The table's own numbering, through the host's two entry points. -/
theorem test_table_word :
    decodeTableWord 8 0x8E = some .getIpv4FragmentOffset ∧ decodeTableWord 8 0x40 = some (.ldb (List.replicate 24 0)) ∧
    decodeTableWord 8 0x00 = none ∧
    (fetch (State.reset.withFetchWord 8 0xB5) = .run (.setIpv4Padding 0) State.reset) := by decide

/-- The command bytes the encoder writes (R62, R64). -/
theorem test_encode :
    (encode .ipv4 .clr).cmd = 0x20#8 ∧ (encode .udp (.setUdpChecksum 7)).cmd = 0xA3#8 ∧
    (encode .udp (.setUdpChecksum 7)).value = 7 ∧ (encode .tcp .getTcpUrgentPointer).cmd = 0x90#8 := by decide

/-! ### The bit-field unit (part B) -/

theorem test_extract :
    extract 0x42000000#32 4 4 = some 0x2#32 ∧ extract 0x00BB00AA#32 19 13 = some 0xAA#32 ∧
    extract 0xA0B1C2D3#32 0 32 = some 0xA0B1C2D3#32 ∧ extract 0x80000000#32 0 1 = some 0x1#32 ∧
    extract 0x00000001#32 31 1 = some 0x1#32 ∧ extract 0xDEADBEEF#32 12 8 = some 0xDB#32 ∧
    extract 0xDEADBEEF#32 3 7 = some 0x7A#32 ∧ extract 0xDEADBEEF#32 1 31 = some 0x5EADBEEF#32 ∧
    extract 0xDEADBEEF#32 0 31 = some 0x6F56DF77#32 := by decide

theorem test_deposit :
    deposit 0x40000000#32 4 4 0x2 = some (.ok 0x42000000#32) ∧
    deposit 0xFFFFFFFF#32 19 13 0xAA = some (.ok 0xFFFFE0AA#32) ∧
    deposit 0x12345678#32 0 32 0xFFFFFFFF = some (.ok 0xFFFFFFFF#32) ∧
    deposit 0x12345678#32 17 1 0 = some (.ok 0x12341678#32) ∧
    deposit 0xDEADBEEF#32 3 7 0x55 = some (.ok 0xD56DBEEF#32) ∧
    deposit 0xDEADBEEF#32 12 8 0 = some (.ok 0xDEA00EEF#32) ∧
    deposit 0xDEADBEEF#32 1 31 0 = some (.ok 0x80000000#32) ∧
    deposit 0xDEADBEEF#32 0 31 0x7FFFFFFF = some (.ok 0xFFFFFFFF#32) := by decide

theorem test_deposit_out_of_range :
    deposit 0#32 0 4 0x10 = some .outOfRange ∧ deposit 0#32 31 1 0x2 = some .outOfRange ∧
    deposit 0xDEADBEEF#32 3 7 0x80 = some .outOfRange ∧ deposit 0#32 0 16 0xFFFFFFFF = some .outOfRange ∧
    deposit 0xDEADBEEF#32 0 31 0x80000000 = some .outOfRange := by decide

/-- Outside the descriptor domain nothing is answered (R90). -/
theorem test_bfu_domain :
    bfu 0xDEADBEEF#32 3#5 7#6 0x80 = some ⟨0x7A, none, true⟩ ∧
    bfu 0xDEADBEEF#32 3#5 7#6 0x55 = some ⟨0x7A, some 0xD56DBEEF, false⟩ ∧
    bfu 0xDEADBEEF#32 3#5 0#6 0 = none ∧ bfu 0xDEADBEEF#32 0#5 33#6 0 = none ∧
    bfu 0xDEADBEEF#32 20#5 13#6 0 = none := by decide

/-- A field inside a field (R88 (d)): DF out of FLAGS of `W[1] = 0x4000`. -/
theorem test_nested_extract : extractIn 3 (extractBits 0x00004000#32 16 3) 1 1 = extractBits 0x00004000#32 17 1 := by
  decide

/-! ### The buffer (part M, part C, S1) -/

theorem test_bytes_of_words :
    [0, 1, 2, 3].map (byteOf 0xA0B1C2D3#32) = [0xA0, 0xB1, 0xC2, 0xD3] ∧
    [0, 1, 2, 3].map (byteOf 0x0035C001#32) = [0x00, 0x35, 0xC0, 0x01] ∧
    wordsOfBytes [0x00, 0x35, 0xC0, 0x01, 0x00, 0x1C, 0xAB, 0xCD] = [0x0035C001#32, 0x001CABCD#32] := by decide

/-- Stream bits 49 (IPv4 DF), 0 and 110 (TCP SYN) (part M). -/
theorem test_stream_bits :
    Memory.streamBit [0, 0x00004000] 49 = some true ∧ Memory.streamBit [0x80000000] 0 = some true ∧
    Memory.streamBit [0, 0, 0, 0x00020000] 110 = some true ∧ Memory.streamBit [0, 0, 0, 0xFFFDFFFF] 110 = some false ∧
    Memory.streamBit [0, 0] 64 = none := by decide

/-- A read across two words, a write across two words, and both past the end (R43, R44). -/
theorem test_mem_read_write :
    (inst .udp [0x0035C001, 0x001CABCD]).memRead 3 2 = some 0x0100 ∧
    ((inst .udp [0x0035C001, 0x001CABCD]).memWrite 3 2 0xBEEF).map State.W = some [0x0035C0BE, 0xEF1CABCD] ∧
    (inst .udp [0, 0]).memRead 7 2 = none ∧ (inst .udp [0, 0]).memRead 0 0 = none ∧
    (inst .udp [0, 0]).memWrite 0 1 256 = none := by decide

theorem test_clr : cmd .udp [0x0035C001, 0x001CABCD] 0x20#8 7 = some ([0, 0], some okResponse) := by decide

theorem test_ldb :
    cycle .udp [0, 0] 0x40#8 0 [0x00, 0x35, 0xC0, 0x01, 0x00, 0x1C, 0xAB, 0xCD] =
      some ([0x0035C001, 0x001CABCD], some okResponse) := by decide

theorem test_stb :
    cmd .ipv4 [0x42000000, 0x00BB00AA, 0xFE001234, 0xA0B1C2D3, 0, 0] 0x60#8 0 =
      some ([0x42000000, 0x00BB00AA, 0xFE001234, 0xA0B1C2D3, 0, 0],
        some (dataResponse [0x42, 0, 0, 0, 0, 0xBB, 0, 0xAA, 0xFE, 0, 0x12, 0x34, 0xA0, 0xB1, 0xC2, 0xD3,
          0, 0, 0, 0, 0, 0, 0, 0])) := by decide

/-- The bus of R65: byte 0 most significant. -/
theorem test_data_bus :
    bigEndian [0x00, 0x35, 0xC0, 0x01, 0x00, 0x1C, 0xAB, 0xCD] = 0x0035C001001CABCD ∧
    wordBus [0x0035C001, 0x001CABCD] = 0x0035C001001CABCD := by decide

/-! ### Every field: columns (a), (b), (c) and (d) of parts F1 to F3, each one cycle -/

theorem test_ipv4_version :
    cmd .ipv4 (zeros .ipv4) 0xA0#8 0xF = some ([0xF0000000, 0, 0, 0, 0, 0], some okResponse) ∧
    cmd .ipv4 (ones .ipv4) 0xA0#8 0 = some ((ones .ipv4).set 0 0x0FFFFFFF, some okResponse) ∧
    cmd .ipv4 (pat .ipv4) 0xA0#8 0x10 = some (pat .ipv4, some errResponse) ∧
    cmd .ipv4 (pat .ipv4) 0x80#8 0 = some (pat .ipv4, some (valueResponse 0x1)) := by decide

theorem test_ipv4_ihl :
    cmd .ipv4 (zeros .ipv4) 0xA1#8 0xF = some ([0x0F000000, 0, 0, 0, 0, 0], some okResponse) ∧
    cmd .ipv4 (ones .ipv4) 0xA1#8 0 = some ((ones .ipv4).set 0 0xF0FFFFFF, some okResponse) ∧
    cmd .ipv4 (pat .ipv4) 0xA1#8 0x10 = some (pat .ipv4, some errResponse) ∧
    cmd .ipv4 (pat .ipv4) 0x81#8 0 = some (pat .ipv4, some (valueResponse 0x2)) := by decide

theorem test_ipv4_tos :
    cmd .ipv4 (zeros .ipv4) 0xA2#8 0xFF = some ([0x00FF0000, 0, 0, 0, 0, 0], some okResponse) ∧
    cmd .ipv4 (ones .ipv4) 0xA2#8 0 = some ((ones .ipv4).set 0 0xFF00FFFF, some okResponse) ∧
    cmd .ipv4 (pat .ipv4) 0xA2#8 0x100 = some (pat .ipv4, some errResponse) ∧
    cmd .ipv4 (pat .ipv4) 0x82#8 0 = some (pat .ipv4, some (valueResponse 0x34)) := by decide

theorem test_ipv4_precedence :
    cmd .ipv4 (zeros .ipv4) 0xA3#8 0x7 = some ([0x00E00000, 0, 0, 0, 0, 0], some okResponse) ∧
    cmd .ipv4 (ones .ipv4) 0xA3#8 0 = some ((ones .ipv4).set 0 0xFF1FFFFF, some okResponse) ∧
    cmd .ipv4 (pat .ipv4) 0xA3#8 0x8 = some (pat .ipv4, some errResponse) ∧
    cmd .ipv4 (pat .ipv4) 0x83#8 0 = some (pat .ipv4, some (valueResponse 0x1)) := by decide

theorem test_ipv4_delay :
    cmd .ipv4 (zeros .ipv4) 0xA4#8 0x1 = some ([0x00100000, 0, 0, 0, 0, 0], some okResponse) ∧
    cmd .ipv4 (ones .ipv4) 0xA4#8 0 = some ((ones .ipv4).set 0 0xFFEFFFFF, some okResponse) ∧
    cmd .ipv4 (pat .ipv4) 0xA4#8 0x2 = some (pat .ipv4, some errResponse) ∧
    cmd .ipv4 (pat .ipv4) 0x84#8 0 = some (pat .ipv4, some (valueResponse 0x1)) := by decide

theorem test_ipv4_throughput :
    cmd .ipv4 (zeros .ipv4) 0xA5#8 0x1 = some ([0x00080000, 0, 0, 0, 0, 0], some okResponse) ∧
    cmd .ipv4 (ones .ipv4) 0xA5#8 0 = some ((ones .ipv4).set 0 0xFFF7FFFF, some okResponse) ∧
    cmd .ipv4 (pat .ipv4) 0xA5#8 0x2 = some (pat .ipv4, some errResponse) ∧
    cmd .ipv4 (pat .ipv4) 0x85#8 0 = some (pat .ipv4, some (valueResponse 0x0)) := by decide

theorem test_ipv4_reliability :
    cmd .ipv4 (zeros .ipv4) 0xA6#8 0x1 = some ([0x00040000, 0, 0, 0, 0, 0], some okResponse) ∧
    cmd .ipv4 (ones .ipv4) 0xA6#8 0 = some ((ones .ipv4).set 0 0xFFFBFFFF, some okResponse) ∧
    cmd .ipv4 (pat .ipv4) 0xA6#8 0x2 = some (pat .ipv4, some errResponse) ∧
    cmd .ipv4 (pat .ipv4) 0x86#8 0 = some (pat .ipv4, some (valueResponse 0x1)) := by decide

theorem test_ipv4_tos_rsvd :
    cmd .ipv4 (zeros .ipv4) 0xA7#8 0x3 = some ([0x00030000, 0, 0, 0, 0, 0], some okResponse) ∧
    cmd .ipv4 (ones .ipv4) 0xA7#8 0 = some ((ones .ipv4).set 0 0xFFFCFFFF, some okResponse) ∧
    cmd .ipv4 (pat .ipv4) 0xA7#8 0x4 = some (pat .ipv4, some errResponse) ∧
    cmd .ipv4 (pat .ipv4) 0x87#8 0 = some (pat .ipv4, some (valueResponse 0x0)) := by decide

theorem test_ipv4_total_length :
    cmd .ipv4 (zeros .ipv4) 0xA8#8 0xFFFF = some ([0x0000FFFF, 0, 0, 0, 0, 0], some okResponse) ∧
    cmd .ipv4 (ones .ipv4) 0xA8#8 0 = some ((ones .ipv4).set 0 0xFFFF0000, some okResponse) ∧
    cmd .ipv4 (pat .ipv4) 0xA8#8 0x10000 = some (pat .ipv4, some errResponse) ∧
    cmd .ipv4 (pat .ipv4) 0x88#8 0 = some (pat .ipv4, some (valueResponse 0x5678)) := by decide

theorem test_ipv4_identification :
    cmd .ipv4 (zeros .ipv4) 0xA9#8 0xFFFF = some ([0, 0xFFFF0000, 0, 0, 0, 0], some okResponse) ∧
    cmd .ipv4 (ones .ipv4) 0xA9#8 0 = some ((ones .ipv4).set 1 0x0000FFFF, some okResponse) ∧
    cmd .ipv4 (pat .ipv4) 0xA9#8 0x10000 = some (pat .ipv4, some errResponse) ∧
    cmd .ipv4 (pat .ipv4) 0x89#8 0 = some (pat .ipv4, some (valueResponse 0x9ABC)) := by decide

theorem test_ipv4_flags :
    cmd .ipv4 (zeros .ipv4) 0xAA#8 0x7 = some ([0, 0x0000E000, 0, 0, 0, 0], some okResponse) ∧
    cmd .ipv4 (ones .ipv4) 0xAA#8 0 = some ((ones .ipv4).set 1 0xFFFF1FFF, some okResponse) ∧
    cmd .ipv4 (pat .ipv4) 0xAA#8 0x8 = some (pat .ipv4, some errResponse) ∧
    cmd .ipv4 (pat .ipv4) 0x8A#8 0 = some (pat .ipv4, some (valueResponse 0x6)) := by decide

theorem test_ipv4_flags_rsvd :
    cmd .ipv4 (zeros .ipv4) 0xAB#8 0x1 = some ([0, 0x00008000, 0, 0, 0, 0], some okResponse) ∧
    cmd .ipv4 (ones .ipv4) 0xAB#8 0 = some ((ones .ipv4).set 1 0xFFFF7FFF, some okResponse) ∧
    cmd .ipv4 (pat .ipv4) 0xAB#8 0x2 = some (pat .ipv4, some errResponse) ∧
    cmd .ipv4 (pat .ipv4) 0x8B#8 0 = some (pat .ipv4, some (valueResponse 0x1)) := by decide

theorem test_ipv4_df :
    cmd .ipv4 (zeros .ipv4) 0xAC#8 0x1 = some ([0, 0x00004000, 0, 0, 0, 0], some okResponse) ∧
    cmd .ipv4 (ones .ipv4) 0xAC#8 0 = some ((ones .ipv4).set 1 0xFFFFBFFF, some okResponse) ∧
    cmd .ipv4 (pat .ipv4) 0xAC#8 0x2 = some (pat .ipv4, some errResponse) ∧
    cmd .ipv4 (pat .ipv4) 0x8C#8 0 = some (pat .ipv4, some (valueResponse 0x1)) := by decide

theorem test_ipv4_mf :
    cmd .ipv4 (zeros .ipv4) 0xAD#8 0x1 = some ([0, 0x00002000, 0, 0, 0, 0], some okResponse) ∧
    cmd .ipv4 (ones .ipv4) 0xAD#8 0 = some ((ones .ipv4).set 1 0xFFFFDFFF, some okResponse) ∧
    cmd .ipv4 (pat .ipv4) 0xAD#8 0x2 = some (pat .ipv4, some errResponse) ∧
    cmd .ipv4 (pat .ipv4) 0x8D#8 0 = some (pat .ipv4, some (valueResponse 0x0)) := by decide

theorem test_ipv4_fragment_offset :
    cmd .ipv4 (zeros .ipv4) 0xAE#8 0x1FFF = some ([0, 0x00001FFF, 0, 0, 0, 0], some okResponse) ∧
    cmd .ipv4 (ones .ipv4) 0xAE#8 0 = some ((ones .ipv4).set 1 0xFFFFE000, some okResponse) ∧
    cmd .ipv4 (pat .ipv4) 0xAE#8 0x2000 = some (pat .ipv4, some errResponse) ∧
    cmd .ipv4 (pat .ipv4) 0x8E#8 0 = some (pat .ipv4, some (valueResponse 0x1EF0)) := by decide

theorem test_ipv4_ttl :
    cmd .ipv4 (zeros .ipv4) 0xAF#8 0xFF = some ([0, 0, 0xFF000000, 0, 0, 0], some okResponse) ∧
    cmd .ipv4 (ones .ipv4) 0xAF#8 0 = some ((ones .ipv4).set 2 0x00FFFFFF, some okResponse) ∧
    cmd .ipv4 (pat .ipv4) 0xAF#8 0x100 = some (pat .ipv4, some errResponse) ∧
    cmd .ipv4 (pat .ipv4) 0x8F#8 0 = some (pat .ipv4, some (valueResponse 0xF)) := by decide

theorem test_ipv4_protocol :
    cmd .ipv4 (zeros .ipv4) 0xB0#8 0xFF = some ([0, 0, 0x00FF0000, 0, 0, 0], some okResponse) ∧
    cmd .ipv4 (ones .ipv4) 0xB0#8 0 = some ((ones .ipv4).set 2 0xFF00FFFF, some okResponse) ∧
    cmd .ipv4 (pat .ipv4) 0xB0#8 0x100 = some (pat .ipv4, some errResponse) ∧
    cmd .ipv4 (pat .ipv4) 0x90#8 0 = some (pat .ipv4, some (valueResponse 0x1E)) := by decide

theorem test_ipv4_header_checksum :
    cmd .ipv4 (zeros .ipv4) 0xB1#8 0xFFFF = some ([0, 0, 0x0000FFFF, 0, 0, 0], some okResponse) ∧
    cmd .ipv4 (ones .ipv4) 0xB1#8 0 = some ((ones .ipv4).set 2 0xFFFF0000, some okResponse) ∧
    cmd .ipv4 (pat .ipv4) 0xB1#8 0x10000 = some (pat .ipv4, some errResponse) ∧
    cmd .ipv4 (pat .ipv4) 0x91#8 0 = some (pat .ipv4, some (valueResponse 0x2D3C)) := by decide

theorem test_ipv4_source_address :
    cmd .ipv4 (zeros .ipv4) 0xB2#8 0xFFFFFFFF = some ([0, 0, 0, 0xFFFFFFFF, 0, 0], some okResponse) ∧
    cmd .ipv4 (ones .ipv4) 0xB2#8 0 = some ((ones .ipv4).set 3 0x00000000, some okResponse) ∧
    cmd .ipv4 (pat .ipv4) 0x92#8 0 = some (pat .ipv4, some (valueResponse 0x4B5A6978)) := by decide

theorem test_ipv4_destination_address :
    cmd .ipv4 (zeros .ipv4) 0xB3#8 0xFFFFFFFF = some ([0, 0, 0, 0, 0xFFFFFFFF, 0], some okResponse) ∧
    cmd .ipv4 (ones .ipv4) 0xB3#8 0 = some ((ones .ipv4).set 4 0x00000000, some okResponse) ∧
    cmd .ipv4 (pat .ipv4) 0x93#8 0 = some (pat .ipv4, some (valueResponse 0x8796A5B4)) := by decide

theorem test_ipv4_options :
    cmd .ipv4 (zeros .ipv4) 0xB4#8 0xFFFFFF = some ([0, 0, 0, 0, 0, 0xFFFFFF00], some okResponse) ∧
    cmd .ipv4 (ones .ipv4) 0xB4#8 0 = some ((ones .ipv4).set 5 0x000000FF, some okResponse) ∧
    cmd .ipv4 (pat .ipv4) 0xB4#8 0x1000000 = some (pat .ipv4, some errResponse) ∧
    cmd .ipv4 (pat .ipv4) 0x94#8 0 = some (pat .ipv4, some (valueResponse 0xC3D2E1)) := by decide

theorem test_ipv4_padding :
    cmd .ipv4 (zeros .ipv4) 0xB5#8 0xFF = some ([0, 0, 0, 0, 0, 0x000000FF], some okResponse) ∧
    cmd .ipv4 (ones .ipv4) 0xB5#8 0 = some ((ones .ipv4).set 5 0xFFFFFF00, some okResponse) ∧
    cmd .ipv4 (pat .ipv4) 0xB5#8 0x100 = some (pat .ipv4, some errResponse) ∧
    cmd .ipv4 (pat .ipv4) 0x95#8 0 = some (pat .ipv4, some (valueResponse 0xF0)) := by decide

theorem test_udp_source_port :
    cmd .udp (zeros .udp) 0xA0#8 0xFFFF = some ([0xFFFF0000, 0], some okResponse) ∧
    cmd .udp (ones .udp) 0xA0#8 0 = some ((ones .udp).set 0 0x0000FFFF, some okResponse) ∧
    cmd .udp (pat .udp) 0xA0#8 0x10000 = some (pat .udp, some errResponse) ∧
    cmd .udp (pat .udp) 0x80#8 0 = some (pat .udp, some (valueResponse 0x1234)) := by decide

theorem test_udp_destination_port :
    cmd .udp (zeros .udp) 0xA1#8 0xFFFF = some ([0x0000FFFF, 0], some okResponse) ∧
    cmd .udp (ones .udp) 0xA1#8 0 = some ((ones .udp).set 0 0xFFFF0000, some okResponse) ∧
    cmd .udp (pat .udp) 0xA1#8 0x10000 = some (pat .udp, some errResponse) ∧
    cmd .udp (pat .udp) 0x81#8 0 = some (pat .udp, some (valueResponse 0x5678)) := by decide

theorem test_udp_length :
    cmd .udp (zeros .udp) 0xA2#8 0xFFFF = some ([0, 0xFFFF0000], some okResponse) ∧
    cmd .udp (ones .udp) 0xA2#8 0 = some ((ones .udp).set 1 0x0000FFFF, some okResponse) ∧
    cmd .udp (pat .udp) 0xA2#8 0x10000 = some (pat .udp, some errResponse) ∧
    cmd .udp (pat .udp) 0x82#8 0 = some (pat .udp, some (valueResponse 0x9ABC)) := by decide

theorem test_udp_checksum :
    cmd .udp (zeros .udp) 0xA3#8 0xFFFF = some ([0, 0x0000FFFF], some okResponse) ∧
    cmd .udp (ones .udp) 0xA3#8 0 = some ((ones .udp).set 1 0xFFFF0000, some okResponse) ∧
    cmd .udp (pat .udp) 0xA3#8 0x10000 = some (pat .udp, some errResponse) ∧
    cmd .udp (pat .udp) 0x83#8 0 = some (pat .udp, some (valueResponse 0xDEF0)) := by decide

theorem test_tcp_source_port :
    cmd .tcp (zeros .tcp) 0xA0#8 0xFFFF = some ([0xFFFF0000, 0, 0, 0, 0], some okResponse) ∧
    cmd .tcp (ones .tcp) 0xA0#8 0 = some ((ones .tcp).set 0 0x0000FFFF, some okResponse) ∧
    cmd .tcp (pat .tcp) 0xA0#8 0x10000 = some (pat .tcp, some errResponse) ∧
    cmd .tcp (pat .tcp) 0x80#8 0 = some (pat .tcp, some (valueResponse 0x1234)) := by decide

theorem test_tcp_destination_port :
    cmd .tcp (zeros .tcp) 0xA1#8 0xFFFF = some ([0x0000FFFF, 0, 0, 0, 0], some okResponse) ∧
    cmd .tcp (ones .tcp) 0xA1#8 0 = some ((ones .tcp).set 0 0xFFFF0000, some okResponse) ∧
    cmd .tcp (pat .tcp) 0xA1#8 0x10000 = some (pat .tcp, some errResponse) ∧
    cmd .tcp (pat .tcp) 0x81#8 0 = some (pat .tcp, some (valueResponse 0x5678)) := by decide

theorem test_tcp_sequence_number :
    cmd .tcp (zeros .tcp) 0xA2#8 0xFFFFFFFF = some ([0, 0xFFFFFFFF, 0, 0, 0], some okResponse) ∧
    cmd .tcp (ones .tcp) 0xA2#8 0 = some ((ones .tcp).set 1 0x00000000, some okResponse) ∧
    cmd .tcp (pat .tcp) 0x82#8 0 = some (pat .tcp, some (valueResponse 0x9ABCDEF0)) := by decide

theorem test_tcp_acknowledgment_number :
    cmd .tcp (zeros .tcp) 0xA3#8 0xFFFFFFFF = some ([0, 0, 0xFFFFFFFF, 0, 0], some okResponse) ∧
    cmd .tcp (ones .tcp) 0xA3#8 0 = some ((ones .tcp).set 2 0x00000000, some okResponse) ∧
    cmd .tcp (pat .tcp) 0x83#8 0 = some (pat .tcp, some (valueResponse 0xF1E2D3C)) := by decide

theorem test_tcp_data_offset :
    cmd .tcp (zeros .tcp) 0xA4#8 0xF = some ([0, 0, 0, 0xF0000000, 0], some okResponse) ∧
    cmd .tcp (ones .tcp) 0xA4#8 0 = some ((ones .tcp).set 3 0x0FFFFFFF, some okResponse) ∧
    cmd .tcp (pat .tcp) 0xA4#8 0x10 = some (pat .tcp, some errResponse) ∧
    cmd .tcp (pat .tcp) 0x84#8 0 = some (pat .tcp, some (valueResponse 0x4)) := by decide

theorem test_tcp_reserved :
    cmd .tcp (zeros .tcp) 0xA5#8 0xF = some ([0, 0, 0, 0x0F000000, 0], some okResponse) ∧
    cmd .tcp (ones .tcp) 0xA5#8 0 = some ((ones .tcp).set 3 0xF0FFFFFF, some okResponse) ∧
    cmd .tcp (pat .tcp) 0xA5#8 0x10 = some (pat .tcp, some errResponse) ∧
    cmd .tcp (pat .tcp) 0x85#8 0 = some (pat .tcp, some (valueResponse 0xB)) := by decide

theorem test_tcp_cwr :
    cmd .tcp (zeros .tcp) 0xA6#8 0x1 = some ([0, 0, 0, 0x00800000, 0], some okResponse) ∧
    cmd .tcp (ones .tcp) 0xA6#8 0 = some ((ones .tcp).set 3 0xFF7FFFFF, some okResponse) ∧
    cmd .tcp (pat .tcp) 0xA6#8 0x2 = some (pat .tcp, some errResponse) ∧
    cmd .tcp (pat .tcp) 0x86#8 0 = some (pat .tcp, some (valueResponse 0x0)) := by decide

theorem test_tcp_ece :
    cmd .tcp (zeros .tcp) 0xA7#8 0x1 = some ([0, 0, 0, 0x00400000, 0], some okResponse) ∧
    cmd .tcp (ones .tcp) 0xA7#8 0 = some ((ones .tcp).set 3 0xFFBFFFFF, some okResponse) ∧
    cmd .tcp (pat .tcp) 0xA7#8 0x2 = some (pat .tcp, some errResponse) ∧
    cmd .tcp (pat .tcp) 0x87#8 0 = some (pat .tcp, some (valueResponse 0x1)) := by decide

theorem test_tcp_urg :
    cmd .tcp (zeros .tcp) 0xA8#8 0x1 = some ([0, 0, 0, 0x00200000, 0], some okResponse) ∧
    cmd .tcp (ones .tcp) 0xA8#8 0 = some ((ones .tcp).set 3 0xFFDFFFFF, some okResponse) ∧
    cmd .tcp (pat .tcp) 0xA8#8 0x2 = some (pat .tcp, some errResponse) ∧
    cmd .tcp (pat .tcp) 0x88#8 0 = some (pat .tcp, some (valueResponse 0x0)) := by decide

theorem test_tcp_ack :
    cmd .tcp (zeros .tcp) 0xA9#8 0x1 = some ([0, 0, 0, 0x00100000, 0], some okResponse) ∧
    cmd .tcp (ones .tcp) 0xA9#8 0 = some ((ones .tcp).set 3 0xFFEFFFFF, some okResponse) ∧
    cmd .tcp (pat .tcp) 0xA9#8 0x2 = some (pat .tcp, some errResponse) ∧
    cmd .tcp (pat .tcp) 0x89#8 0 = some (pat .tcp, some (valueResponse 0x1)) := by decide

theorem test_tcp_psh :
    cmd .tcp (zeros .tcp) 0xAA#8 0x1 = some ([0, 0, 0, 0x00080000, 0], some okResponse) ∧
    cmd .tcp (ones .tcp) 0xAA#8 0 = some ((ones .tcp).set 3 0xFFF7FFFF, some okResponse) ∧
    cmd .tcp (pat .tcp) 0xAA#8 0x2 = some (pat .tcp, some errResponse) ∧
    cmd .tcp (pat .tcp) 0x8A#8 0 = some (pat .tcp, some (valueResponse 0x1)) := by decide

theorem test_tcp_rst :
    cmd .tcp (zeros .tcp) 0xAB#8 0x1 = some ([0, 0, 0, 0x00040000, 0], some okResponse) ∧
    cmd .tcp (ones .tcp) 0xAB#8 0 = some ((ones .tcp).set 3 0xFFFBFFFF, some okResponse) ∧
    cmd .tcp (pat .tcp) 0xAB#8 0x2 = some (pat .tcp, some errResponse) ∧
    cmd .tcp (pat .tcp) 0x8B#8 0 = some (pat .tcp, some (valueResponse 0x0)) := by decide

theorem test_tcp_syn :
    cmd .tcp (zeros .tcp) 0xAC#8 0x1 = some ([0, 0, 0, 0x00020000, 0], some okResponse) ∧
    cmd .tcp (ones .tcp) 0xAC#8 0 = some ((ones .tcp).set 3 0xFFFDFFFF, some okResponse) ∧
    cmd .tcp (pat .tcp) 0xAC#8 0x2 = some (pat .tcp, some errResponse) ∧
    cmd .tcp (pat .tcp) 0x8C#8 0 = some (pat .tcp, some (valueResponse 0x1)) := by decide

theorem test_tcp_fin :
    cmd .tcp (zeros .tcp) 0xAD#8 0x1 = some ([0, 0, 0, 0x00010000, 0], some okResponse) ∧
    cmd .tcp (ones .tcp) 0xAD#8 0 = some ((ones .tcp).set 3 0xFFFEFFFF, some okResponse) ∧
    cmd .tcp (pat .tcp) 0xAD#8 0x2 = some (pat .tcp, some errResponse) ∧
    cmd .tcp (pat .tcp) 0x8D#8 0 = some (pat .tcp, some (valueResponse 0x0)) := by decide

theorem test_tcp_window :
    cmd .tcp (zeros .tcp) 0xAE#8 0xFFFF = some ([0, 0, 0, 0x0000FFFF, 0], some okResponse) ∧
    cmd .tcp (ones .tcp) 0xAE#8 0 = some ((ones .tcp).set 3 0xFFFF0000, some okResponse) ∧
    cmd .tcp (pat .tcp) 0xAE#8 0x10000 = some (pat .tcp, some errResponse) ∧
    cmd .tcp (pat .tcp) 0x8E#8 0 = some (pat .tcp, some (valueResponse 0x6978)) := by decide

theorem test_tcp_checksum :
    cmd .tcp (zeros .tcp) 0xAF#8 0xFFFF = some ([0, 0, 0, 0, 0xFFFF0000], some okResponse) ∧
    cmd .tcp (ones .tcp) 0xAF#8 0 = some ((ones .tcp).set 4 0x0000FFFF, some okResponse) ∧
    cmd .tcp (pat .tcp) 0xAF#8 0x10000 = some (pat .tcp, some errResponse) ∧
    cmd .tcp (pat .tcp) 0x8F#8 0 = some (pat .tcp, some (valueResponse 0x8796)) := by decide

theorem test_tcp_urgent_pointer :
    cmd .tcp (zeros .tcp) 0xB0#8 0xFFFF = some ([0, 0, 0, 0, 0x0000FFFF], some okResponse) ∧
    cmd .tcp (ones .tcp) 0xB0#8 0 = some ((ones .tcp).set 4 0xFFFF0000, some okResponse) ∧
    cmd .tcp (pat .tcp) 0xB0#8 0x10000 = some (pat .tcp, some errResponse) ∧
    cmd .tcp (pat .tcp) 0x90#8 0 = some (pat .tcp, some (valueResponse 0xA5B4)) := by decide

/-! ### Errors, reset and the ports (part X) -/

/-- A value whose low bits would fit is not truncated to them, and 6 is then accepted. -/
theorem test_no_truncation :
    cmd .ipv4 [0x45000054, 0, 0, 0, 0, 0] 0xA0#8 0xFFFFFFF4 = some ([0x45000054, 0, 0, 0, 0, 0], some errResponse) ∧
    cmd .ipv4 [0x45000054, 0, 0, 0, 0, 0] 0xA0#8 6 = some ([0x65000054, 0, 0, 0, 0, 0], some okResponse) := by decide

/-- Reset together with `SET CHECKSUM, 1` (R221). -/
theorem test_reset_wins :
    step ⟨.udp 0x0035C001 0x001CABCD, [⟨true, true, ⟨0xA3#8, 1, []⟩⟩], some okResponse⟩ =
      .next ⟨.udp 0 0, [], none⟩ := by rfl

/-- A cycle without a command, presented and past the end of the list (R72, log entry 2). -/
theorem test_idle :
    step ⟨.udp 1 2, [⟨false, false, ⟨0xA3#8, 1, []⟩⟩], some okResponse⟩ = .next ⟨.udp 1 2, [], none⟩ ∧
    step ⟨.udp 1 2, [], some okResponse⟩ = .next ⟨.udp 1 2, [], none⟩ := ⟨rfl, rfl⟩

/-- The reset values of the three instances (R31). -/
theorem test_reset_words :
    (State.resetOf .ipv4).W = [0, 0, 0, 0, 0, 0] ∧ (State.resetOf .udp).W = [0, 0] ∧
    (State.resetOf .tcp).W = [0, 0, 0, 0, 0] := by decide

/-- The two refusals that no request decodes to (log entry 8). -/
theorem test_refused_terms :
    exec .getUdpLength State.reset = .refused .otherInstance ∧
    exec (.ldb [1, 2, 3]) State.reset = .refused .bufferSize := ⟨rfl, rfl⟩

/-- A descriptor that breaks an invariant of R27 is refused, and so is a SET through it whose value would not fit:
no field of the tables has one (R15, U3; log entries 6 and 8). -/
theorem test_illegal_descriptor :
    getField .udp ⟨2, 0, 16⟩ (inst .udp [1, 2]) = .refused (.noStorageWord 2) ∧
    setField .udp ⟨2, 0, 16⟩ 0x10000 (inst .udp [1, 2]) = .refused (.noStorageWord 2) ∧
    getField .udp ⟨1, 20, 13⟩ (inst .udp [1, 2]) = .refused .outsideDomain ∧
    setField .udp ⟨1, 0, 33⟩ 0 (inst .udp [1, 2]) = .refused .outsideDomain := ⟨rfl, rfl, rfl, rfl⟩

/-- The one error is a response, and no machine state is a fault (R15, R200). -/
theorem test_no_fault : (∀ _ : Fault, False) ∧ cmd .udp [1, 2] 0xA3#8 0x10000 = some ([1, 2], some errResponse) :=
  ⟨(fun f => nomatch f), by decide⟩

/-- A container has room for exactly its `N` words, and its words are those it was made of (R20). -/
theorem test_container_words :
    (Container.ofWords .udp (pat .udp)).words = pat .udp ∧ (Container.ofWords .ipv4 (pat .ipv4)).words = pat .ipv4 ∧
    (Container.ofWords .tcp (pat .tcp)).setWord 4 7 =
      .tcp 0x12345678 0x9ABCDEF0 0x0F1E2D3C 0x4B5A6978 7 ∧ (patC .udp).setWord 2 7 = patC .udp := by decide

/-! ### Enumerated views, nested containers and the textual form (part E, R69, R70) -/

theorem test_packs :
    tosPack 5 1 1 0 0 = 0xB8#8 ∧ tosPack 7 1 1 1 3 = 0xFF#8 ∧ flagsPack 0 1 0 = 2#3 ∧ flagsPack 1 0 1 = 5#3 := by
  decide

theorem test_enumerated :
    setePrecedence .flash = .setIpv4Precedence 3 ∧ seteMf .moreFragments = .setIpv4Mf 1 ∧
    geteDf (valueResponse 1) = some .dontFragment ∧ geteDf (valueResponse 0) = some .mayFragment ∧
    getePrecedence (valueResponse 7) = some .networkControl := by decide

theorem test_assemble :
    assembleText .ipv4 "SET DF, true ; set_DF\n\nSETE PRECEDENCE, Network Control\nSET TTL, 0xFE\nGET FLAGS\nSTB" =
      some [.setIpv4Df 1, .setIpv4Precedence 7, .setIpv4Ttl 0xFE, .getIpv4Flags, .stb] ∧
    assembleText .udp "LDB 00 35 C0 01 00 1C AB CD\nCLR" =
      some [.ldb [0x00, 0x35, 0xC0, 0x01, 0x00, 0x1C, 0xAB, 0xCD], .clr] := by decide

theorem test_assemble_refuses :
    assembleLine .udp "SET LENGTH, true".toList = none ∧ assembleLine .udp "GET TTL".toList = none ∧
    assembleLine .udp "LDB 00 35".toList = none ∧ assembleLine .udp "SET LENGTH, 4294967296".toList = none ∧
    assembleLine .udp "SET LENGTH, 12x".toList = none ∧ assembleLine .udp "CLR 1".toList = none := by decide

theorem test_show :
    showResponse okResponse = "ok" ∧ showResponse errResponse = "OutOfRange" ∧
    showResponse (dataResponse [0xA0, 0x0B]) = "A0 0B" ∧ showResponse (valueResponse 227) = "0x000000E3" ∧
    showEnum .ipv4 "DF" 1 = some "Don't Fragment" := by decide

/-! ### Witnesses: for each statement with hypotheses, operands that meet them together -/

/-- The three instances with the pattern words, an idle port and no response. -/
theorem pat_wf (ht : HeaderType) : (inst ht (pat ht)).wf := by
  cases ht <;> exact ⟨by simp [inst], by simp [inst]⟩

theorem witness_DecodeEncodeAgree :
    Instr.wf .ipv4 (.setIpv4Padding 0xFFFFFFFF) = true ∧ Instr.wf .udp .getUdpChecksum = true ∧
    Instr.wf .tcp (.ldb (List.replicate 20 0xFF)) = true := by decide

theorem witness_EncodeDecodeAgree :
    dec .tcp 0xB0#8 = some (.setTcpUrgentPointer 5) ∧ dec .ipv4 0x95#8 = some .getIpv4Padding ∧
    (decode .udp ⟨0x40#8, 9, List.replicate 8 1⟩).toOption = some (.ldb (List.replicate 8 1)) := by decide

theorem witness_CommandBytesDecodeAsTheSpecLists :
    (List.replicate 8 (0 : Byte)).length = HeaderType.udp.numBytes := by decide

/-- Each clause at the ends of its range: operation codes 0, 6 and 7, a field identifier 1, and the first
identifier without a row and the last with one. -/
theorem witness_ExactlyTheReservedRequestsAreRefused :
    Request.wf .udp ⟨0x1F#8, 0, List.replicate 8 0⟩ = true ∧
    dec .udp 0x1F#8 = none ∧ dec .udp 0xC0#8 = none ∧ dec .udp 0xFF#8 = none ∧ dec .udp 0x21#8 = none ∧
    dec .udp 0x84#8 = none ∧ dec .udp 0x83#8 = some .getUdpChecksum ∧
    dec .tcp 0x91#8 = none ∧ dec .tcp 0x90#8 = some .getTcpUrgentPointer ∧
    dec .ipv4 0xB6#8 = none ∧ dec .ipv4 0xB5#8 = some (.setIpv4Padding 5) ∧
    why .udp 0x1F#8 [] = some (.reserved .reservedOp) := by decide

/-- A GET with any two values and any two buffers; a SET with one value and any two buffers. -/
theorem witness_UnusedOperandPortsAreIgnored :
    (0x80#8).toNat / 32 ≠ 5 ∧ (0x80#8).toNat / 32 ≠ 2 ∧ (0xBF#8).toNat / 32 = 5 ∧ (0xBF#8).toNat / 32 ≠ 2 ∧
    (0x40#8).toNat / 32 = 2 ∧ (0x40#8).toNat / 32 ≠ 5 := by decide

/-- A port whose next cycle presents `SET CHECKSUM, 1`, is idle, or is a reset. -/
def portOf (rst valid : Bool) : List PortCycle := [⟨rst, valid, ⟨0xA3#8, 1, List.replicate 8 0⟩⟩]

theorem witness_StepPerformsThePresentedCommand :
    (⟨patC .udp, portOf false true, none⟩ : State).port =
      [⟨false, true, ⟨0xA3#8, 1, List.replicate 8 0⟩⟩] ∧
    (decode .udp ⟨0xA3#8, 1, List.replicate 8 0⟩).toOption = some (.setUdpChecksum 1) := by decide

theorem witness_IdleCyclesChangeNothing :
    (inst .udp (pat .udp)).port = [] ∧
    (⟨patC .udp, portOf false false, none⟩ : State).port =
      [⟨false, false, ⟨0xA3#8, 1, List.replicate 8 0⟩⟩] := by decide

theorem witness_ResetWinsOverACommand :
    ((⟨patC .udp, portOf true true ++ portOf false true, none⟩ : State).port =
      ⟨true, true, ⟨0xA3#8, 1, List.replicate 8 0⟩⟩ :: portOf false true) ∧
    (decode .udp ⟨0xA3#8, 1, List.replicate 8 0⟩).toOption = some (.setUdpChecksum 1) := by decide

theorem witness_ResetLeavesTheZeroContainer :
    step ⟨patC .udp, portOf true true, none⟩ = .next ⟨.udp 0 0, [], none⟩ ∧
    (decode .udp ⟨getCmd 3, 1, []⟩).toOption = some .getUdpChecksum ∧ Instr.op .getUdpChecksum = 0b100#3 :=
  ⟨rfl, by decide, by decide⟩

/-- A state with a command at its port meets the invariant, and its step answers a next state. -/
theorem witness_EveryStepKeepsTheInvariant :
    (⟨patC .udp, portOf false true, some okResponse⟩ : State).wf ∧
    step ⟨patC .udp, portOf false true, some okResponse⟩ =
      .next ⟨.udp 0x12345678 0x9ABC0001, [], some okResponse⟩ :=
  ⟨⟨by simp [portOf]; decide, by simp; decide⟩, rfl⟩

theorem witness_HeaderTypeStaysAndCommandsSeeTheWordsOnly :
    step (inst .udp [1, 2]) = .next (inst .udp [1, 2]) ∧
    step ⟨patC .udp, portOf false true, none⟩ = .next ⟨.udp 0x12345678 0x9ABC0001, [], some okResponse⟩ ∧
    exec (.setUdpChecksum 1) (inst .udp (pat .udp)) = .next ⟨.udp 0x12345678 0x9ABC0001, [], some okResponse⟩ ∧
    (⟨patC .udp, portOf true true, some errResponse⟩ : State).container = (inst .udp (pat .udp)).container :=
  ⟨rfl, rfl, rfl, rfl⟩

theorem witness_EveryWellFormedCommandCompletes :
    Instr.wf .tcp (.setTcpReserved 16) = true ∧ Instr.wf .tcp .stb = true := by
  decide

theorem witness_LegalStreamsNeverStop :
    (⟨patC .udp, portOf false true ++ portOf true true ++ portOf false false, none⟩ : State).wf ∧
    (portOf false true ++ portOf true true ++ portOf false false).all (PortCycle.legal .udp) = true :=
  ⟨⟨by simp [portOf]; decide, by simp⟩, by decide⟩

theorem witness_OtherInstancesFieldsAreRefused :
    Instr.header .getTcpFin = some .tcp ∧ HeaderType.tcp ≠ (inst .udp (pat .udp)).ht := by decide

theorem witness_ClrZeroesTheContainer :
    (inst .ipv4 [0x42000000, 0x00BB00AA, 0xFE001234, 0xA0B1C2D3, 0, 0]).ht = .ipv4 ∧
    Instr.wf .ipv4 .getIpv4Ttl = true ∧ Instr.op .getIpv4Ttl = 0b100#3 := by decide

theorem witness_LdbLoadsTheBuffer :
    (List.replicate 24 (0xA5 : Byte)).length = (inst .ipv4 (pat .ipv4)).ht.numBytes ∧
    (List.replicate 23 (0xA5 : Byte)).length ≠ (inst .ipv4 (pat .ipv4)).ht.numBytes := by decide

theorem witness_StbReturnsTheBuffer :
    (List.replicate 20 (0xA5 : Byte)).length = HeaderType.tcp.numBytes := by decide

theorem witness_GetIpv4FieldsAnswerTheirBits :
    (inst .ipv4 (pat .ipv4)).container =
      .ipv4 0x12345678#32 0x9ABCDEF0#32 0x0F1E2D3C#32 0x4B5A6978#32 0x8796A5B4#32 0xC3D2E1F0#32 := by decide

/-- The largest value of each width of the IPV4 table meets the hypothesis of its clauses, the next does not. -/
theorem witness_SetIpv4FieldsWriteTheirBits :
    (inst .ipv4 (pat .ipv4)).container =
      .ipv4 0x12345678#32 0x9ABCDEF0#32 0x0F1E2D3C#32 0x4B5A6978#32 0x8796A5B4#32 0xC3D2E1F0#32 ∧
    (1#32).toNat ≤ 1 ∧ (3#32).toNat ≤ 3 ∧ (7#32).toNat ≤ 7 ∧ (15#32).toNat ≤ 15 ∧ (255#32).toNat ≤ 255 ∧
    (8191#32).toNat ≤ 8191 ∧ (65535#32).toNat ≤ 65535 ∧ (16777215#32).toNat ≤ 16777215 := by decide

theorem witness_SetIpv4FieldsRejectTooLargeValues :
    (inst .ipv4 (pat .ipv4)).container =
      .ipv4 0x12345678#32 0x9ABCDEF0#32 0x0F1E2D3C#32 0x4B5A6978#32 0x8796A5B4#32 0xC3D2E1F0#32 ∧
    1 < (2#32).toNat ∧ 3 < (4#32).toNat ∧ 7 < (8#32).toNat ∧ 15 < (16#32).toNat ∧ 255 < (256#32).toNat ∧
    8191 < (8192#32).toNat ∧ 65535 < (65536#32).toNat ∧ 16777215 < (16777216#32).toNat := by decide

theorem witness_GetUdpFieldsAnswerTheirBits :
    (inst .udp (pat .udp)).container =
      .udp 0x12345678#32 0x9ABCDEF0#32 := by decide

theorem witness_SetUdpFieldsWriteTheirBits :
    (inst .udp (pat .udp)).container =
      .udp 0x12345678#32 0x9ABCDEF0#32 ∧
    (65535#32).toNat ≤ 65535 := by decide

theorem witness_SetUdpFieldsRejectTooLargeValues :
    (inst .udp (pat .udp)).container =
      .udp 0x12345678#32 0x9ABCDEF0#32 ∧
    65535 < (65536#32).toNat := by decide

theorem witness_GetTcpFieldsAnswerTheirBits :
    (inst .tcp (pat .tcp)).container =
      .tcp 0x12345678#32 0x9ABCDEF0#32 0x0F1E2D3C#32 0x4B5A6978#32 0x8796A5B4#32 := by decide

theorem witness_SetTcpFieldsWriteTheirBits :
    (inst .tcp (pat .tcp)).container =
      .tcp 0x12345678#32 0x9ABCDEF0#32 0x0F1E2D3C#32 0x4B5A6978#32 0x8796A5B4#32 ∧
    (1#32).toNat ≤ 1 ∧ (15#32).toNat ≤ 15 ∧ (65535#32).toNat ≤ 65535 := by decide

theorem witness_SetTcpFieldsRejectTooLargeValues :
    (inst .tcp (pat .tcp)).container =
      .tcp 0x12345678#32 0x9ABCDEF0#32 0x0F1E2D3C#32 0x4B5A6978#32 0x8796A5B4#32 ∧
    1 < (2#32).toNat ∧ 15 < (16#32).toNat ∧ 65535 < (65536#32).toNat := by decide

/-- A field of width 13 and one of width 32, with the words they lie in. -/
theorem witness_GetReadsTheBitsOfItsRow :
    (fields .ipv4)[14]? = some ⟨"FRAGMENT_OFFSET", .leaf, ⟨1, 19, 13⟩⟩ ∧ (pat .ipv4)[1]? = some 0x9ABCDEF0#32 ∧
    (fields .tcp)[2]? = some ⟨"SEQUENCE_NUMBER", .leaf, ⟨1, 0, 32⟩⟩ ∧ (pat .tcp)[1]? = some 0x9ABCDEF0#32 := by
  decide

/-- The largest value of width 13 and of width 32; wire bits inside the field, before it and after it. -/
theorem witness_SetWritesTheBitsOfItsRow :
    (fields .ipv4)[10]? = some ⟨"FLAGS", .composite [11, 12, 13], ⟨1, 16, 3⟩⟩ ∧ (7#32).toNat < 2 ^ 3 ∧
    (fields .ipv4)[18]? = some ⟨"SOURCE_ADDRESS", .leaf, ⟨3, 0, 32⟩⟩ ∧ (0xFFFFFFFF#32).toNat < 2 ^ 32 ∧
    2 < 3 ∧ 47 < 32 * 1 + 16 ∧ 32 * 1 + 16 + 3 ≤ 51 := by decide

theorem witness_SetStoresOnlyToItsOwnWordsBytes :
    Instr.op (.setUdpChecksum 1) = 0b101#3 ∧ fieldRow (.setUdpChecksum 1) = some ⟨"CHECKSUM", .leaf, ⟨1, 16, 16⟩⟩ ∧
    after (.setUdpChecksum 1) (inst .udp (pat .udp)) = some ⟨.udp 0x12345678 0x9ABC0001, [], some okResponse⟩ := by
  decide

theorem witness_ReadsStoreNothing :
    Instr.op .getUdpChecksum = 0b100#3 ∧ Instr.op .stb = 0b011#3 ∧
    after .getUdpChecksum (inst .udp (pat .udp)) = some ⟨patC .udp, [], some (valueResponse 0xDEF0)⟩ ∧
    (after .stb (inst .udp (pat .udp))).isSome = true := by decide

theorem witness_CommandsAreIdempotent :
    (after (.setUdpChecksum 0x10000) (inst .udp (pat .udp))) = some ⟨patC .udp, [], some errResponse⟩ ∧
    (after .clr (inst .udp (pat .udp))) = some ⟨.udp 0 0, [], some okResponse⟩ ∧
    Instr.op .getUdpChecksum = 0b100#3 ∧ Instr.op .stb = 0b011#3 ∧ Instr.wf .udp .getUdpChecksum = true ∧
    (after .getUdpChecksum (inst .udp (pat .udp))).isSome = true ∧
    (execAll [.stb, .getUdpLength, .getUdpChecksum] (inst .udp (pat .udp))).isSome = true := by decide

/-- Two leaf fields of one word, the writer accepted; and a writer refused. -/
theorem witness_SetNeverDisturbsAnotherLeafField :
    (fields .udp)[2]? = some ⟨"LENGTH", .leaf, ⟨1, 0, 16⟩⟩ ∧
    (fields .udp)[3]? = some ⟨"CHECKSUM", .leaf, ⟨1, 16, 16⟩⟩ ∧ 
    (decode .udp ⟨setCmd 2, 0xFFFF, []⟩).toOption = some (.setUdpLength 0xFFFF) ∧
    (decode .udp ⟨getCmd 3, 0xFFFF, []⟩).toOption = some .getUdpChecksum ∧
    after (.setUdpLength 0xFFFF) (inst .udp (pat .udp)) =
      some ⟨.udp 0x12345678 0xFFFFDEF0, [], some ⟨false, none, none⟩⟩ ∧
    after (.setUdpLength 0x10000) (inst .udp (pat .udp)) =
      some ⟨patC .udp, [], some ⟨true, none, none⟩⟩ := by decide

/-- Two neighbours in one word, and two fields of different words. -/
theorem witness_SetOrderOfDisjointFieldsDoesNotMatter :
    Instr.wf .tcp (.setTcpSyn 1) = true ∧ Instr.wf .tcp (.setTcpFin 2) = true ∧
    fieldRow (.setTcpSyn 1) = some ⟨"SYN", .leaf, ⟨3, 14, 1⟩⟩ ∧ fieldRow (.setTcpFin 2) = some ⟨"FIN", .leaf, ⟨3, 15, 1⟩⟩ ∧
    FieldDesc.disjoint ⟨3, 14, 1⟩ ⟨3, 15, 1⟩ = true ∧ FieldDesc.disjoint Tcp.syn Tcp.checksum = true := by decide

/-- Commands after the SET that write no bit of its field, a failed SET of it among them, and their run. -/
theorem witness_SetThenGetUntilOverwritten :
    (fields .udp)[2]? = some ⟨"LENGTH", .leaf, ⟨1, 0, 16⟩⟩ ∧ (0xFFFF#32).toNat < 2 ^ 16 ∧
    
    (decode .udp ⟨setCmd 2, 0xFFFF, []⟩).toOption = some (.setUdpLength 0xFFFF) ∧
    (decode .udp ⟨getCmd 2, 0xFFFF, []⟩).toOption = some .getUdpLength ∧
    [.setUdpChecksum 3, .stb, .getUdpLength, .setUdpLength 0x10000].all (fun k => !writesBitsOf k ⟨1, 0, 16⟩) = true ∧
    (execAll [.setUdpLength 0xFFFF, .setUdpChecksum 3, .stb, .getUdpLength, .setUdpLength 0x10000]
      (inst .udp (pat .udp))).map State.W = some [0x12345678, 0xFFFF0003] := by decide

/-- Both clauses at the two sides of the boundary of a 13-bit field. -/
theorem witness_TooLargeValuesAreRejected :
    (fields .ipv4)[14]? = some ⟨"FRAGMENT_OFFSET", .leaf, ⟨1, 19, 13⟩⟩ ∧ 2 ^ 13 - 1 < (8192#32).toNat ∧
    (8191#32).toNat ≤ 2 ^ 13 - 1 := by decide

/-- A failing SET, a succeeding one, a command of another kind, and rows of width 1, 24 and 32. -/
theorem witness_OutOfRangeComesFromSetOnly :
    
    after (.setUdpLength 0x10000) (inst .udp (pat .udp)) = some ⟨patC .udp, [], some errResponse⟩ ∧
    (after (.setUdpLength 0xFFFF) (inst .udp (pat .udp))).isSome = true ∧
    (after .clr (inst .udp (pat .udp))).isSome = true ∧ Instr.op .clr ≠ 0b101#3 ∧ Instr.wf .udp .clr = true ∧
    (fields .tcp)[13]? = some ⟨"FIN", .leaf, ⟨3, 15, 1⟩⟩ ∧ (fields .ipv4)[20]? = some ⟨"OPTIONS", .leaf, ⟨5, 0, 24⟩⟩ ∧
    (fields .tcp)[2]? = some ⟨"SEQUENCE_NUMBER", .leaf, ⟨1, 0, 32⟩⟩ := by decide

theorem witness_FailedSetIsPrecise :
    (execAll ([.clr, .setUdpChecksum 5] ++ .setUdpLength 0x10000 :: [.getUdpLength, .stb]) (inst .udp (pat .udp))).isSome =
      true ∧
    (execAll [.clr, .setUdpChecksum 5] (inst .udp (pat .udp))) = some ⟨.udp 0 5, [], some okResponse⟩ ∧
    after (.setUdpLength 0x10000) ⟨.udp 0 5, [], some okResponse⟩ = some ⟨.udp 0 5, [], some errResponse⟩ := by
  decide

theorem witness_FailedSetLeavesNoResidue :
    (execAll [.clr, .setUdpChecksum 5] (inst .udp (pat .udp))) = some ⟨.udp 0 5, [], some okResponse⟩ ∧
    after (.setUdpLength 0x10000) ⟨.udp 0 5, [], some okResponse⟩ = some ⟨.udp 0 5, [], some errResponse⟩ ∧
    [Instr.getUdpLength] ≠ [] := by decide

theorem witness_TosIsItsMembersSideBySide :
    (inst .ipv4 (pat .ipv4)).ht = .ipv4 ∧ 
    (255#32).toNat < 256 ∧ (7#32).toNat < 8 ∧ (1#32).toNat < 2 ∧ (3#32).toNat < 4 := by decide

theorem witness_FlagsIsItsMembersSideBySide :
    (inst .ipv4 (pat .ipv4)).ht = .ipv4 ∧ 
    (7#32).toNat < 8 ∧ (1#32).toNat < 2 := by decide

theorem witness_DontFragmentViewsAgree :
    (inst .ipv4 (pat .ipv4)).ht = .ipv4 := by decide

theorem witness_PackFunctionsAreTheirProjections :
    (inst .ipv4 (ones .ipv4)).ht = .ipv4 := by decide

theorem witness_SettingThroughAViewNeverFails :
    (inst .ipv4 (zeros .ipv4)).ht = .ipv4 := by decide

theorem witness_TextualFormsStandForTheirCommands :
    (fields .tcp)[13]? = some ⟨"FIN", .leaf, ⟨3, 15, 1⟩⟩ ∧ (fields .tcp)[16]? = some ⟨"URGENT_POINTER", .leaf, ⟨4, 16, 16⟩⟩ ∧
    2 ^ 32 ≤ 4294967296 ∧ (List.replicate 8 (0xFF : Byte)).length = HeaderType.udp.numBytes ∧
    (List.replicate 7 0).length ≠ HeaderType.udp.numBytes ∧ 256 ∈ 256 :: List.replicate 7 0 := by decide

theorem witness_TcpFlagsOccupyByteThirteen :
    (inst .tcp (pat .tcp)).ht = .tcp := by decide

/-- The largest value of a field of 7 bits, and of a whole word. -/
theorem witness_DepositThenExtractGivesTheValue :
    (1 ≤ 7 ∧ 7 ≤ 32 ∧ 3 ≤ 31 ∧ 3 + 7 ≤ 32 ∧ (127#32).toNat ≤ 2 ^ 7 - 1) ∧
    (1 ≤ 32 ∧ 0 ≤ 31 ∧ 0 + 32 ≤ 32 ∧ (0xFFFFFFFF#32).toNat ≤ 2 ^ 32 - 1) := by decide

theorem witness_DepositPreservesEveryOtherBit :
    1 ≤ 7 ∧ 7 ≤ 32 ∧ 3 ≤ 31 ∧ 3 + 7 ≤ 32 ∧ (127#32).toNat ≤ 2 ^ 7 - 1 ∧ 2 < 3 ∧ 3 + 7 ≤ 10 ∧ 10 < 32 := by decide

/-- Two neighbouring positions, and one inside another. -/
theorem witness_DepositObeysTheAlgebraicLaws :
    legalPos 3 7 = true ∧ legalPos 10 22 = true ∧ (127#32).toNat < 2 ^ 7 ∧ (0#32).toNat < 2 ^ 22 ∧ 3 + 7 ≤ 10 ∧
    legalPos 16 3 = true ∧ legalPos 17 1 = true ∧ 16 ≤ 17 ∧ 17 + 1 ≤ 16 + 3 := by decide

theorem witness_ShiftsLoseNoBits :
    1 ≤ 1 ∧ 1 ≤ 32 ∧ 31 ≤ 31 ∧ 31 + 1 ≤ 32 ∧ (1#32) ≤ mask 1 ∧ (0xFFFFFFFF#32) ≤ mask 32 := by decide

/-- The domain at its edges, and just outside it; a value that fits and one that does not. -/
theorem witness_BitFieldUnitAnswersInItsDomainOnly :
    1 ≤ (13#6).toNat ∧ (19#5).toNat + (13#6).toNat ≤ 32 ∧ (0#6).toNat = 0 ∧ 32 < (20#5).toNat + (13#6).toNat ∧
    (bfu 0#32 19#5 13#6 0x1FFF).map BfuOut.oorO = some false ∧ (bfu 0#32 19#5 13#6 0x2000).map BfuOut.oorO = some true := by
  decide

theorem witness_BytesAndWordsAreBigEndian :
    19 < HeaderType.tcp.numBytes ∧ 4 < HeaderType.tcp.numWords := by decide

theorem witness_StreamBitsNumberBytesAndFields :
    159 < 8 * HeaderType.tcp.numBytes ∧
    FieldDesc.legal HeaderType.tcp.numWords Tcp.urgentPointer = true ∧ 15 < Tcp.urgentPointer.w := by decide

/-- Three bytes across a word boundary, at the largest value. -/
theorem witness_MemWriteWritesItsBytesOnly :
    1 ≤ 3 ∧ 5 + 3 ≤ HeaderType.udp.numBytes ∧ 0xFFFFFF < 2 ^ (8 * 3) := by decide

theorem witness_AlignedFieldsAreMemReads :
    1 < HeaderType.udp.numWords := by decide

theorem witness_ContainersAreEqualByTheirBytes :
    (patC .udp).ht = (Container.zero .udp).ht ∧ 7 < HeaderType.udp.numBytes ∧ 1 < HeaderType.udp.numWords := by
  decide

theorem witness_TheDataBusIsTheWordsSideBySide :
    7 < HeaderType.udp.numBytes := by decide


end Sys2Proof.Tests
end

section
/-!
Equality of containers (spec/10_state.md R30): the words decide the container, and the bytes decide the words.
-/

namespace Sys2Proof.Machine

/-- A word is determined by its four bytes (R41). -/
theorem eq_of_byteOf_eq {v w : Word} (h : ∀ k < 4, byteOf v k = byteOf w k) : v = w := by
  rw [← append_byteOf v, ← append_byteOf w, h 0 (by decide), h 1 (by decide), h 2 (by decide), h 3 (by decide)]

/-- The byte at address `4i + k` is byte `k` of word `i` (R41). -/
theorem Memory.byteAt_four_mul_add (m : Memory) (i : Nat) {k : Nat} (hk : k < 4) :
    m.byteAt (4 * i + k) = m[i]?.map (byteOf · k) := by
  rw [Memory.byteAt, show (4 * i + k) / 4 = i by omega, show (4 * i + k) % 4 = k by omega]

/-- A word that may be absent is determined by its four bytes, absent with it. -/
theorem eq_of_map_byteOf_eq : ∀ {x y : Option Word}, (∀ k < 4, x.map (byteOf · k) = y.map (byteOf · k)) → x = y
  | none, none, _ => rfl
  | some _, some _, h => congrArg some (eq_of_byteOf_eq fun k hk => Option.some.inj (h k hk))
  | none, some _, h => nomatch h 0 (by decide)
  | some _, none, h => nomatch h 0 (by decide)

/-- Two buffers with the same bytes at addresses `4i` to `4i + 3` have the same word `i`, or neither has one. -/
theorem Memory.getElem?_eq_of_byteAt_eq {m m' : Memory} {i : Nat}
    (h : ∀ k < 4, m.byteAt (4 * i + k) = m'.byteAt (4 * i + k)) : m[i]? = m'[i]? :=
  eq_of_map_byteOf_eq fun k hk => by
    rw [← m.byteAt_four_mul_add i hk, ← m'.byteAt_four_mul_add i hk, h k hk]

/-- Containers of one header type are equal exactly when their `N` words agree (R30). -/
theorem Container.eq_iff_words_getElem? {c c' : Container} (h : c.ht = c'.ht) :
    c = c' ↔ ∀ i, i < c.ht.numWords → c.words[i]? = c'.words[i]? := by
  refine ⟨fun e _ _ => by rw [e], fun hw => Container.ext_words h (List.ext_getElem?' fun i hi => hw i ?_)⟩
  rwa [c.words_length, c'.words_length, ← h, Nat.max_self] at hi

/-- Containers of one header type are equal exactly when their `BYTES` bytes agree (R30). -/
theorem Container.eq_iff_words_byteAt {c c' : Container} (h : c.ht = c'.ht) :
    c = c' ↔ ∀ a, a < c.ht.numBytes → c.words.byteAt a = c'.words.byteAt a := by
  refine ⟨fun e _ _ => by rw [e], fun hb => (Container.eq_iff_words_getElem? h).2 fun i hi => ?_⟩
  refine Memory.getElem?_eq_of_byteAt_eq fun k hk => hb (4 * i + k) ?_
  rw [HeaderType.numBytes]
  omega

/-- Settles O58: the words decide the container, and the four bytes of each word decide the word. -/
theorem containersAreEqualByTheirBytes : Obligations.ContainersAreEqualByTheirBytes :=
  fun _ _ h => ⟨Container.eq_iff_words_byteAt h, Container.eq_iff_words_getElem? h⟩

end Sys2Proof.Machine
end

section
/-!
The buffer (spec/20_memory.md R41, R42): where a byte and a stream bit stand in the words.
-/

namespace Sys2Proof.Machine

/-- Every word index below `N` has its word (R20). -/
theorem State.exists_word {s : State} {i : Nat} (h : i < s.ht.numWords) : ∃ w, s.W[i]? = some w :=
  ⟨_, List.getElem?_eq_getElem (by rwa [s.W_length])⟩

/-- Every byte address below `BYTES` lies in a word (R40, R41). -/
theorem State.exists_word_of_byte {s : State} {a : Nat} (h : a < s.ht.numBytes) : ∃ w, s.W[a / 4]? = some w :=
  s.exists_word (by rw [HeaderType.numBytes] at h; omega)

/-- The byte at an address whose word is known (R41). -/
theorem Memory.byteAt_of_word {m : Memory} {a : Nat} {w : Word} (h : m[a / 4]? = some w) :
    m.byteAt a = some (byteOf w (a % 4)) := by
  rw [Memory.byteAt, h, Option.map_some]

/-- The stream bit at a position whose word is known (R42). -/
theorem Memory.streamBit_of_word {m : Memory} {k : Nat} {w : Word} (h : m[k / 32]? = some w) :
    m.streamBit k = some (w.getLsbD (31 - k % 32)) := by
  rw [Memory.streamBit, h, Option.map_some, wireBit]

/-- Byte `k` of a word as a shift and a mask (R41): the mask leaves nothing that narrowing to a byte would lose. -/
theorem byteOf_setWidth (w : Word) (k : Nat) : (byteOf w k).setWidth 32 = (w >>> (24 - 8 * k)) &&& 0xFF#32 := by
  have hle : ((w >>> (24 - 8 * k)) &&& 0xFF#32).toNat ≤ 0xFF := by
    rw [BitVec.toNat_and]
    exact Nat.and_le_right
  apply BitVec.eq_of_toNat_eq
  rw [byteOf, BitVec.toNat_setWidth, BitVec.toNat_setWidth]
  omega

/-- The bits of a byte of a word (R41). -/
theorem byteOf_getLsbD (w : Word) {k i : Nat} (hk : k < 4) (hi : i < 8) :
    (byteOf w k).getLsbD i = w.getLsbD (24 - 8 * k + i) := by
  rw [byteOf_eq_extractLsb w k hk, BitVec.getLsbD_extractLsb', decide_eq_true hi, Bool.true_and]

/-- Wire bit `k mod 32` of a word is bit `7 - (k mod 8)` of its byte `(k div 8) mod 4` (R41, R42). -/
theorem byteOf_getLsbD_stream (w : Word) (k : Nat) :
    (byteOf w (k / 8 % 4)).getLsbD (7 - k % 8) = w.getLsbD (31 - k % 32) := by
  rw [byteOf_getLsbD w (by omega) (by omega)]
  congr 1
  omega

/-- The value bits of a field, most significant first, are the wire bits of its word from `off` on (R42, R83). -/
theorem extractBits_getLsbD_wire {off w : Nat} (h : legalPos off w = true) (word : Word) {j : Nat} (hj : j < w) :
    (extractBits word off w).getLsbD (w - 1 - j) = word.getLsbD (31 - (off + j)) := by
  obtain ⟨-, -, -, hs⟩ := legalPos_iff.1 h
  rw [extractBits_getLsbD h, decide_eq_true (by omega), Bool.true_and, shamt]
  congr 1
  omega

/-- The value of a field whose word is known (R83). -/
theorem State.field_of_word {s : State} {d : FieldDesc} {w : Word} (h : s.W[d.widx]? = some w) :
    s.field d = extractBits w d.off d.w := by
  rw [State.field, List.getD_eq_getElem?_getD, h, Option.getD_some]

/-- Stream bit `k` is a bit of its word and a bit of its byte (R42). -/
theorem State.streamBit_word_byte {s : State} {k : Nat} (h : k < 8 * s.ht.numBytes) :
    ∃ w b, s.W[k / 32]? = some w ∧ s.W.byteAt (k / 8) = some b ∧
      s.W.streamBit k = some (w.getLsbD (31 - k % 32)) ∧ s.W.streamBit k = some (b.getLsbD (7 - k % 8)) := by
  obtain ⟨w, hw⟩ := s.exists_word_of_byte (a := k / 8) (by omega)
  have hk : s.W[k / 32]? = some w := by rw [← hw, Nat.div_div_eq_div_mul]
  refine ⟨w, _, hk, Memory.byteAt_of_word hw, Memory.streamBit_of_word hk, ?_⟩
  rw [byteOf_getLsbD_stream, Memory.streamBit_of_word hk]

/-- A field with a legal descriptor occupies the stream bits from `32*widx + off` on, most significant first (R42). -/
theorem State.streamBit_field {s : State} {d : FieldDesc} {j : Nat} (hd : d.legal s.ht.numWords = true) (hj : j < d.w) :
    s.W.streamBit (32 * d.widx + d.off + j) = some ((s.field d).getLsbD (d.w - 1 - j)) := by
  rw [FieldDesc.legal, Bool.and_eq_true, decide_eq_true_eq] at hd
  obtain ⟨hpos, hidx⟩ := hd
  obtain ⟨-, -, -, hend⟩ := legalPos_iff.1 hpos
  obtain ⟨w, hw⟩ := s.exists_word hidx
  have hdiv : (32 * d.widx + d.off + j) / 32 = d.widx := by omega
  have hmod : (32 * d.widx + d.off + j) % 32 = d.off + j := by omega
  rw [Memory.streamBit_of_word (by rwa [hdiv]), hmod, State.field_of_word hw, extractBits_getLsbD_wire hpos w hj]

/-- Settles O54: a byte is the slice of its word by `byteOf`, and a word is its four bytes put together again. -/
theorem bytesAndWordsAreBigEndian : Obligations.BytesAndWordsAreBigEndian := by
  refine fun s => ⟨fun a ha => ?_, fun i hi => ?_⟩
  · obtain ⟨w, hw⟩ := s.exists_word_of_byte ha
    have hk : a % 4 < 4 := Nat.mod_lt a (by decide)
    exact ⟨w, _, hw, Memory.byteAt_of_word hw, byteOf_eq_extractLsb w _ hk, byteOf_setWidth w _⟩
  · obtain ⟨w, hw⟩ := s.exists_word hi
    have hbyte : ∀ k < 4, s.W.byteAt (4 * i + k) = some (byteOf w k) := fun k hk => by
      rw [Memory.byteAt_four_mul_add _ i hk, hw, Option.map_some]
    refine ⟨_, _, _, _, hbyte 0 (by decide), hbyte 1 (by decide), hbyte 2 (by decide), hbyte 3 (by decide), ?_⟩
    rw [append_byteOf, hw]

/-- Settles O55: bit `k` of the stream in its word and in its byte, and the fields along the stream. -/
theorem streamBitsNumberBytesAndFields : Obligations.StreamBitsNumberBytesAndFields :=
  fun _ => ⟨fun _ hk => State.streamBit_word_byte hk, fun _ _ hd hj => State.streamBit_field hd hj⟩

end Sys2Proof.Machine
end

section
/-!
Repeating a command (spec/20_memory.md R47). No command sees the response of an earlier one, so a command that
changes the response only repeats itself, and so does every later one; CLR, LDB and an accepted SET write the same
words again.
-/

namespace Sys2Proof.Machine

/-- A command does the same whatever response was driven before it (R24, R29). -/
theorem exec_respond (i : Instr) (s : State) (r : Response) : exec i (s.respond r) = exec i s :=
  exec_rsp i s (some r)

/-- A command that changes the response only gives the same again. -/
theorem exec_repeat_of_respond {i : Instr} {s : State} {r : Response} (h : exec i s = .next (s.respond r)) :
    exec i (s.respond r) = .next (s.respond r) := by
  rw [exec_respond, h]

@[simp] theorem State.respond_respond (s : State) (r r' : Response) : (s.respond r).respond r' = s.respond r' := rfl

/-- The response driven and the container are set independently. -/
@[simp] theorem State.setContainer_respond (s : State) (r : Response) (c : Container) :
    (s.respond r).setContainer c = (s.setContainer c).respond r := rfl

@[simp] theorem State.setContainer_setContainer (s : State) (c c' : Container) :
    (s.setContainer c).setContainer c' = s.setContainer c' := rfl

/-- Of two writes of one word the last wins (R21). -/
@[simp] theorem State.writeWord_writeWord (s : State) (i : Nat) (v v' : Word) :
    (s.writeWord i v).writeWord i v' = s.writeWord i v' := by
  simp [State.writeWord]

/-- A value that is not reported as too large fits (R84). -/
theorem fits_of_not_exceeds {w : Nat} {v : Word} (hw : w ≤ 32) (h : exceeds w v = false) : v.toNat < 2 ^ w :=
  Nat.lt_of_not_le (mt (exceeds_iff hw v).2 (Bool.eq_false_iff.1 h))

/-- Depositing the same value again changes nothing (R88 (b)). -/
theorem depositBits_depositBits (word : Word) (off w : Nat) (v : Word) :
    depositBits (depositBits word off w v) off w v = depositBits word off w v := by
  ext i hi
  simp only [depositBits, BitVec.getElem_or, BitVec.getElem_and]
  cases (v <<< shamt off w)[i] <;> cases (~~~shiftedMask off w)[i] <;> simp

/-- CLR repeats itself (R47, R101). -/
theorem clearAll_repeat {s t : State} (h : clearAll s = .next t) : clearAll t = .next t := by
  obtain rfl := clearAll_next h
  simp [clearAll]

/-- LDB repeats itself (R47, R102). -/
theorem loadBuffer_repeat {b : List Byte} {s t : State} (h : loadBuffer b s = .next t) : loadBuffer b t = .next t := by
  obtain ⟨hlen, rfl⟩ := loadBuffer_next h
  simp [loadBuffer, hlen, State.setWords]

/-- Where the field holds the value already, SET of that value answers as it did when it wrote it (R47, R105). -/
theorem IsSet.exec_writeWord_depositBits {i : Instr} {fid : Nat} {row : FieldRow} {v word : Word} {s : State}
    (h : IsSet i s.ht fid row v) (hw : s.W[row.desc.widx]? = some word) (hv : v.toNat < 2 ^ row.desc.w) :
    exec i (s.writeWord row.desc.widx (depositBits word row.desc.off row.desc.w v)) = exec i s := by
  rw [h.exec_accept hw hv]
  have hidx : row.desc.widx < s.W.length := (List.getElem?_eq_some_iff.1 hw).1
  generalize hx : depositBits word row.desc.off row.desc.w v = x
  have hset : IsSet i (s.writeWord row.desc.widx x).ht fid row v := by rwa [State.writeWord_ht]
  have hword : (s.writeWord row.desc.widx x).W[row.desc.widx]? = some x := by
    rw [State.writeWord_W, List.getElem?_set_self hidx]
  rw [hset.exec_accept hword hv, ← hx, depositBits_depositBits, State.writeWord_writeWord]

/-- Every command repeats itself (R47). -/
theorem exec_repeat {i : Instr} {s t : State} (h : exec i s = .next t) : exec i t = .next t := by
  rcases exec_cases i with rfl | ⟨b, rfl⟩ | rfl | ⟨ht, fid, row, hg⟩ | ⟨ht, fid, row, v, hs⟩
  · exact clearAll_repeat h
  · exact loadBuffer_repeat h
  · obtain rfl := storeBuffer_next h
    exact exec_repeat_of_respond h
  · obtain ⟨-, -, word, -, rfl⟩ := getField_next (hg.exec_eq s ▸ h)
    exact exec_repeat_of_respond h
  · obtain ⟨rfl, hl, word, hw, ⟨-, rfl⟩ | ⟨he, rfl⟩⟩ := setField_next (hs.exec_eq s ▸ h)
    · exact exec_repeat_of_respond h
    · obtain ⟨-, hw32, -, -⟩ := legalPos_iff.1 hl
      rw [exec_respond, hs.exec_writeWord_depositBits hw (fits_of_not_exceeds hw32 he), h]

/-- A read: GET or STB, by operation code (R62). -/
def IsRead (i : Instr) : Prop := i.op = 0b100#3 ∨ i.op = 0b011#3

/-- A command with another operation code is no read. -/
theorem not_isRead_of_op {i : Instr} {op : BitVec 3} (h : i.op = op) (hop : op ≠ 0b100#3 ∧ op ≠ 0b011#3) :
    ¬ IsRead i := by
  rw [IsRead, h, not_or]
  exact hop

/-- The reads are STB and the GETs of the rows. -/
theorem IsRead.stb_or_isGet {i : Instr} (h : IsRead i) : i = .stb ∨ ∃ ht fid row, IsGet i ht fid row := by
  rcases exec_cases i with rfl | ⟨b, rfl⟩ | rfl | hg | ⟨ht, fid, row, v, hs⟩
  · exact absurd h (not_isRead_of_op (op := 0b001#3) rfl (by decide))
  · exact absurd h (not_isRead_of_op (op := 0b010#3) rfl (by decide))
  · exact .inl rfl
  · exact .inr hg
  · exact absurd h (not_isRead_of_op hs.op (by decide))

/-- A well-formed GET is of the header type it is well-formed for (R64). -/
theorem IsGet.header_eq_of_wf {i : Instr} {ht ht' : HeaderType} {fid : Nat} {row : FieldRow}
    (h : IsGet i ht fid row) (hwf : i.wf ht' = true) : ht = ht' := by
  unfold Instr.wf at hwf
  split at hwf
  · cases h.header
  · rw [h.header] at hwf
    exact of_decide_eq_true hwf

/-- A well-formed read answers without an error, and only the response changes (R103, R104). -/
theorem IsRead.exec_next {i : Instr} {s : State} (h : IsRead i) (hwf : i.wf s.ht = true) :
    ∃ r, exec i s = .next (s.respond r) ∧ r.err = false := by
  rcases h.stb_or_isGet with rfl | ⟨ht, fid, row, hg⟩
  · exact ⟨_, rfl, rfl⟩
  · obtain rfl := hg.header_eq_of_wf hwf
    obtain ⟨word, hw⟩ := row_word hg.row_eq
    exact ⟨_, hg.exec_next hw, rfl⟩

/-- A read that answers changes the response only (R46). -/
theorem IsRead.next_eq_respond {i : Instr} {s t : State} (h : IsRead i) (hx : exec i s = .next t) :
    ∃ r, t = s.respond r := by
  rcases h.stb_or_isGet with rfl | ⟨ht, fid, row, hg⟩
  · exact ⟨_, storeBuffer_next hx⟩
  · obtain ⟨-, -, word, -, rfl⟩ := getField_next (hg.exec_eq s ▸ hx)
    exact ⟨_, rfl⟩

/-- After a read every command does what it did before (R46, R47). -/
theorem IsRead.exec_after {j : Instr} {s t : State} (h : IsRead j) (hx : exec j s = .next t) (i : Instr) :
    exec i t = exec i s := by
  obtain ⟨r, rfl⟩ := h.next_eq_respond hx
  exact exec_respond i s r

/-- A list of commands performed: the first, then the others from where it ended. -/
theorem execAll_cons_eq_some {i : Instr} {is : List Instr} {s u : State} :
    execAll (i :: is) s = some u ↔ ∃ t, exec i s = .next t ∧ execAll is t = some u := by
  rw [execAll]
  cases exec i s <;> simp

/-- After any number of reads every command does what it did before (R46, R47). -/
theorem exec_after_reads {reads : List Instr} {s u : State} (hr : ∀ j ∈ reads, IsRead j)
    (h : execAll reads s = some u) (i : Instr) : exec i u = exec i s := by
  induction reads generalizing s with
  | nil =>
    cases h
    rfl
  | cons j js ih =>
    obtain ⟨hj, hjs⟩ := List.forall_mem_cons.1 hr
    obtain ⟨t, hx, hrest⟩ := execAll_cons_eq_some.1 h
    rw [ih hjs hrest, hj.exec_after hx]

/-- Settles O32: every command repeats itself, and reads change the response only, which no command sees. -/
theorem commandsAreIdempotent : Obligations.CommandsAreIdempotent := by
  refine ⟨fun _ _ _ => exec_repeat, fun _ _ => IsRead.exec_next, fun i reads s t u hi hreads hx hall => ?_⟩
  calc exec i u
    _ = exec i t := exec_after_reads hreads hall i
    _ = exec i s := IsRead.exec_after hi hx i
    _ = .next t := hx

end Sys2Proof.Machine
end

section
/-!
Which requests are reserved (spec/30_encoding.md R64, R67). A GET or SET decodes exactly when its field identifier has
a row: one way by the decoder on a row, the other because a command that decodes belongs to the instance's table.
A presented request that does not decode ends in a refusal.
-/

namespace Sys2Proof.Machine

/-- A well-formed field command is of the header type it is well-formed for (R64). -/
theorem header_eq_of_wf {i : Instr} {ht ht' : HeaderType} (h : i.header = some ht) (hwf : i.wf ht' = true) :
    ht = ht' := by
  unfold Instr.wf at hwf
  split at hwf
  · cases h
  · rw [h] at hwf
    exact of_decide_eq_true hwf

/-- The field identifier of a well-formed GET or SET has a row in the instance's table (R64). -/
theorem fid_lt_of_wf {i : Instr} {ht : HeaderType} (hwf : i.wf ht = true) (hop : i.op = 0b100#3 ∨ i.op = 0b101#3) :
    i.fid.toNat < (fields ht).length := by
  rcases exec_cases i with rfl | ⟨b, rfl⟩ | rfl | ⟨ht', fid, row, hg⟩ | ⟨ht', fid, row, v, hs⟩
  · rcases hop with h | h <;> cases h
  · rcases hop with h | h <;> cases h
  · rcases hop with h | h <;> cases h
  · obtain rfl := header_eq_of_wf hg.header hwf
    exact hg.fid_eq ▸ fid_lt_of_row hg.row_eq
  · obtain rfl := header_eq_of_wf hs.header hwf
    exact hs.fid_eq ▸ fid_lt_of_row hs.row_eq

/-- A decoder that answers a command exactly for the numbers below `n` rejects exactly the others. -/
theorem exists_error_iff_le {x : Except DecodeError Instr} {fid n : Nat} (h : (∃ i, x = .ok i) ↔ fid < n) :
    (∃ e, x = .error e) ↔ n ≤ fid := by
  rw [← Nat.not_lt, ← h]
  cases x <;> simp

/-- GET is rejected exactly where the table has no row (R64, R67). -/
theorem decodeGet_error_iff (ht : HeaderType) (fid : Nat) :
    (∃ e, decodeGet ht fid = .error e) ↔ (fields ht).length ≤ fid := by
  refine exists_error_iff_le ⟨fun ⟨i, hd⟩ => ?_, fun hlt => ?_⟩
  · obtain ⟨hwf, hop, rfl⟩ := decodeGet_inv _ _ _ hd
    exact fid_lt_of_wf hwf (.inl hop)
  · obtain ⟨i, hd, -⟩ := decodeGet_row (List.getElem?_eq_getElem hlt)
    exact ⟨i, hd⟩

/-- SET is rejected exactly where the table has no row, whatever the value (R64, R67). -/
theorem decodeSet_error_iff (ht : HeaderType) (v : Word) (fid : Nat) :
    (∃ e, decodeSet ht v fid = .error e) ↔ (fields ht).length ≤ fid := by
  refine exists_error_iff_le ⟨fun ⟨i, hd⟩ => ?_, fun hlt => ?_⟩
  · obtain ⟨hwf, hop, rfl, -⟩ := decodeSet_inv _ _ _ _ hd
    exact fid_lt_of_wf hwf (.inr hop)
  · obtain ⟨i, hd, -⟩ := decodeSet_row v (List.getElem?_eq_getElem hlt)
    exact ⟨i, hd⟩

/-- A command without a field is rejected exactly when its field identifier is not 0 (R67). -/
theorem ite_nonzeroFid_error_iff (fid : Nat) (i : Instr) :
    (∃ e, (if fid = 0 then .ok i else .error .nonzeroFid : Except DecodeError Instr) = .error e) ↔ fid ≠ 0 := by
  split <;> simp [*]

/-- The reserved command bytes of an instance of header type `ht`, by operation code and field identifier (R67). -/
def ReservedCode (ht : HeaderType) (op fid : Nat) : Prop :=
  (op = 0 ∨ op = 6 ∨ op = 7) ∨ ((op = 1 ∨ op = 2 ∨ op = 3) ∧ fid ≠ 0) ∨
    ((op = 4 ∨ op = 5) ∧ (fields ht).length ≤ fid)

/-- A request of the port widths is rejected exactly when its command byte is reserved (R67). -/
theorem decode_error_iff {ht : HeaderType} {r : Request} (hwf : r.wf ht = true) :
    (∃ e, decode ht r = .error e) ↔ ReservedCode ht (cmdOp r.cmd).toNat (cmdFid r.cmd).toNat := by
  have hlen : r.data.length = ht.numBytes := of_decide_eq_true hwf
  have hop : (cmdOp r.cmd).toNat < 8 := (cmdOp r.cmd).isLt
  unfold decode ReservedCode
  simp only [hlen, if_true]
  generalize (cmdOp r.cmd).toNat = op at hop ⊢
  split
  case h_1 => simp [ite_nonzeroFid_error_iff]
  case h_2 => simp [ite_nonzeroFid_error_iff]
  case h_3 => simp [ite_nonzeroFid_error_iff]
  case h_4 => simp [decodeGet_error_iff]
  case h_5 => simp [decodeSet_error_iff]
  case h_6 =>
    have hrest : op = 0 ∨ op = 6 ∨ op = 7 := by grind
    exact iff_of_true ⟨_, rfl⟩ (.inl hrest)

/-- A command cycle whose request does not decode has no next state (R67). -/
theorem step_of_decode_error {s : State} {c : PortCycle} {rest : List PortCycle} {e : DecodeError}
    (hp : s.port = c :: rest) (hr : c.rst = false) (hv : c.valid = true) (hd : decode s.ht c.req = .error e) :
    step s = .refused (.reserved e) := by
  simp [step, fetch, hp, applyCycle, hr, hv, hd]

/-- Settles O4: the decoder rejects exactly the reserved codes, and a rejected request is refused by the step. -/
theorem exactlyTheReservedRequestsAreRefused : Obligations.ExactlyTheReservedRequestsAreRefused := by
  refine fun ht r hwf => ⟨?_, fun e hd s c rest hht hp hrst hv hreq => ?_⟩
  · have h := decode_error_iff hwf
    rw [ReservedCode, cmdOp_toNat, cmdFid_toNat] at h
    cases ht <;> exact h
  · subst hht hreq
    exact step_of_decode_error hp hrst hv hd

end Sys2Proof.Machine
end

section
/-!
The laws of the bit-field unit (spec/40_bitfield_unit.md R82, R85 to R88). A word is known when the bits of one field
and the bits outside it are known; a deposit fixes the first by its value and takes the second from the old word.
-/

namespace Sys2Proof.Machine

/-- Value bit `i` of a word belongs to the field: it is in the slice `[31 - off : Shamt(off, w)]` (R81). -/
abbrev InField (off w i : Nat) : Prop := shamt off w ≤ i ∧ i < 32 - off

/-- At a legal position the `w` bits of the field fill the slice from `Shamt(off, w)` up to `32 - off` (R82). -/
theorem width_add_shamt {off w : Nat} (h : legalPos off w = true) : w + shamt off w = 32 - off := by
  obtain ⟨-, -, -, hs⟩ := legalPos_iff.1 h
  rw [shamt]
  omega

/-- Bit `i` of the field's value is in the field (R81, R82). -/
theorem inField_shamt_add {off w i : Nat} (h : legalPos off w = true) (hi : i < w) :
    InField off w (shamt off w + i) := by
  have hsum := width_add_shamt h
  exact ⟨Nat.le_add_right .., by omega⟩

/-- Wire bit `k` is in the field exactly when it is one of `off` to `off + w - 1` (R9, R81). -/
theorem inField_wire_iff {off w k : Nat} (h : legalPos off w = true) (hk : k < 32) :
    InField off w (31 - k) ↔ off ≤ k ∧ k < off + w := by
  obtain ⟨-, -, -, hs⟩ := legalPos_iff.1 h
  rw [InField, shamt]
  omega

/-- Fields on disjoint wire bits have no bit in common (R88 (c)). -/
theorem not_inField_of_disjoint {off1 w1 off2 w2 i : Nat} (h1 : legalPos off1 w1 = true) (h2 : legalPos off2 w2 = true)
    (hd : off1 + w1 ≤ off2 ∨ off2 + w2 ≤ off1) (hi : InField off1 w1 i) : ¬ InField off2 w2 i := by
  have hsum1 := width_add_shamt h1
  have hsum2 := width_add_shamt h2
  obtain ⟨-, -, -, hs1⟩ := legalPos_iff.1 h1
  obtain ⟨-, -, -, hs2⟩ := legalPos_iff.1 h2
  obtain ⟨hlo, hhi⟩ := hi
  rintro ⟨hlo', hhi'⟩
  omega

/-- A value up to `2^w - 1` fits in `w` bits. -/
theorem lt_two_pow_of_le_pred {w n : Nat} (h : n ≤ 2 ^ w - 1) : n < 2 ^ w :=
  Nat.lt_of_le_pred (Nat.two_pow_pos w) h

/-- The mask fits in its width (R80). -/
theorem mask_fits {w : Nat} (hw : w ≤ 32) : (mask w).toNat < 2 ^ w :=
  lt_two_pow_of_le_pred (Nat.le_of_eq (mask_toNat hw))

/-- A value up to the mask fits (R84). -/
theorem fits_of_le_mask {w : Nat} {v : Word} (hw : w ≤ 32) (h : v ≤ mask w) : v.toNat < 2 ^ w :=
  Nat.lt_of_le_of_lt h (mask_fits hw)

/-- An extracted value fits: it has no bit outside the mask (R83). -/
theorem extractBits_fits {off w : Nat} (hw : w ≤ 32) (word : Word) : (extractBits word off w).toNat < 2 ^ w := by
  refine Nat.lt_of_le_of_lt ?_ (mask_fits hw)
  rw [extractBits, BitVec.toNat_and]
  exact Nat.and_le_right

/-- Shifting a value that fits into its field is the exact product with `2^Shamt`: no bit is lost (R82). -/
theorem toNat_shiftLeft_shamt {off w : Nat} (h : legalPos off w = true) {v : Word} (hv : v.toNat < 2 ^ w) :
    (v <<< shamt off w).toNat = v.toNat * 2 ^ shamt off w := by
  have hlt : v.toNat * 2 ^ shamt off w < 2 ^ 32 :=
    calc v.toNat * 2 ^ shamt off w
      _ < 2 ^ w * 2 ^ shamt off w := Nat.mul_lt_mul_of_pos_right hv (Nat.two_pow_pos _)
      _ = 2 ^ (32 - off) := by rw [← Nat.pow_add, width_add_shamt h]
      _ ≤ 2 ^ 32 := Nat.pow_le_pow_right (by decide) (Nat.sub_le 32 off)
  rw [BitVec.toNat_shiftLeft, Nat.shiftLeft_eq, Nat.mod_eq_of_lt hlt]

/-- `extract` inside its domain (R83). -/
theorem extract_of_legal {off w : Nat} (h : legalPos off w = true) (word : Word) :
    extract word off w = some (extractBits word off w) :=
  extract_eq_some_iff.2 ⟨h, rfl⟩

/-- `deposit` of a value that fits, inside its domain (R84). -/
theorem deposit_of_fits {off w : Nat} (h : legalPos off w = true) (word : Word) {v : Word} (hv : v.toNat < 2 ^ w) :
    deposit word off w v = some (.ok (depositBits word off w v)) := by
  obtain ⟨-, hw, -, -⟩ := legalPos_iff.1 h
  have he : exceeds w v = false := Bool.eq_false_iff.2 (mt (exceeds_iff hw v).1 (Nat.not_le.2 hv))
  exact deposit_eq_some_iff.2 ⟨h, .inr ⟨he, rfl⟩⟩

/-- Inside the field the deposited word has the bits of the value (R84). -/
theorem depositBits_getLsbD_inField {off w i : Nat} (h : legalPos off w = true) (word : Word) {v : Word}
    (hv : v.toNat < 2 ^ w) (hi : InField off w i) :
    (depositBits word off w v).getLsbD i = v.getLsbD (i - shamt off w) := by
  rw [depositBits_getLsbD h word hv (Nat.lt_of_lt_of_le hi.2 (Nat.sub_le 32 off)), if_pos hi]

/-- Outside the field the deposited word has the bits of the old one (R84, R87). -/
theorem depositBits_getLsbD_of_not_inField {off w i : Nat} (h : legalPos off w = true) (word : Word) {v : Word}
    (hv : v.toNat < 2 ^ w) (hi : i < 32) (ho : ¬ InField off w i) :
    (depositBits word off w v).getLsbD i = word.getLsbD i := by
  rw [depositBits_getLsbD h word hv hi, if_neg ho]

/-- An extracted value depends on the bits of its field alone (R83). -/
theorem extractBits_congr {off w : Nat} (h : legalPos off w = true) {x y : Word}
    (hxy : ∀ i, InField off w i → x.getLsbD i = y.getLsbD i) : extractBits x off w = extractBits y off w := by
  refine BitVec.eq_of_getLsbD_eq fun i _ => ?_
  rw [extractBits_getLsbD h, extractBits_getLsbD h]
  by_cases hi : i < w
  · rw [hxy _ (inField_shamt_add h hi)]
  · rw [decide_eq_false hi, Bool.false_and, Bool.false_and]

/-- Round trip: what was deposited is read back (R86). -/
theorem extractBits_depositBits {off w : Nat} (h : legalPos off w = true) (word : Word) {v : Word}
    (hv : v.toNat < 2 ^ w) : extractBits (depositBits word off w v) off w = v := by
  refine BitVec.eq_of_getLsbD_eq fun i _ => ?_
  rw [extractBits_getLsbD h]
  by_cases hi : i < w
  · rw [decide_eq_true hi, Bool.true_and, depositBits_getLsbD_inField h word hv (inField_shamt_add h hi),
      Nat.add_sub_cancel_left]
  · rw [decide_eq_false hi, Bool.false_and, getLsbD_of_fits hv (Nat.le_of_not_lt hi)]

/-- Preservation in the form with the mask: the complement of the shifted mask selects the same bits (R87). -/
theorem depositBits_and_not_shiftedMask {off w : Nat} (h : legalPos off w = true) (word : Word) {v : Word}
    (hv : v.toNat < 2 ^ w) :
    depositBits word off w v &&& ~~~(shiftedMask off w) = word &&& ~~~(shiftedMask off w) := by
  refine BitVec.eq_of_getLsbD_eq fun i hi => ?_
  rw [BitVec.getLsbD_and, BitVec.getLsbD_and, BitVec.getLsbD_not, shiftedMask_getLsbD h]
  by_cases hf : InField off w i
  · rw [decide_eq_true hf, Bool.not_true, Bool.and_false, Bool.and_false, Bool.and_false]
  · rw [depositBits_getLsbD_of_not_inField h word hv hi hf]

/-- Write-back: depositing what was extracted changes nothing (R88 (a)). -/
theorem depositBits_extractBits {off w : Nat} (h : legalPos off w = true) (word : Word) :
    depositBits word off w (extractBits word off w) = word := by
  obtain ⟨-, hw, -, -⟩ := legalPos_iff.1 h
  have hfits := extractBits_fits (off := off) hw word
  refine BitVec.eq_of_getLsbD_eq fun i hi => ?_
  by_cases hf : InField off w i
  · have hsum := width_add_shamt h
    obtain ⟨hlo, hhi⟩ := hf
    have hlt : i - shamt off w < w := by omega
    rw [depositBits_getLsbD_inField h word hfits ⟨hlo, hhi⟩, extractBits_getLsbD h, decide_eq_true hlt, Bool.true_and,
      Nat.add_sub_of_le hlo]
  · rw [depositBits_getLsbD_of_not_inField h word hfits hi hf]

/-- Of two deposits to one field the last wins (R88 (b)). -/
theorem depositBits_last_wins {off w : Nat} (h : legalPos off w = true) (word : Word) {v1 v2 : Word}
    (hv1 : v1.toNat < 2 ^ w) (hv2 : v2.toNat < 2 ^ w) :
    depositBits (depositBits word off w v1) off w v2 = depositBits word off w v2 := by
  refine BitVec.eq_of_getLsbD_eq fun i hi => ?_
  by_cases hf : InField off w i
  · rw [depositBits_getLsbD_inField h _ hv2 hf, depositBits_getLsbD_inField h _ hv2 hf]
  · rw [depositBits_getLsbD_of_not_inField h _ hv2 hi hf, depositBits_getLsbD_of_not_inField h _ hv2 hi hf,
      depositBits_getLsbD_of_not_inField h _ hv1 hi hf]

section
variable {off1 w1 off2 w2 : Nat}

/-- A deposit does not change what a disjoint field reads (R88 (c)). -/
theorem extractBits_depositBits_of_disjoint (h1 : legalPos off1 w1 = true) (h2 : legalPos off2 w2 = true)
    (hd : off1 + w1 ≤ off2 ∨ off2 + w2 ≤ off1) (word : Word) {v : Word} (hv : v.toNat < 2 ^ w1) :
    extractBits (depositBits word off1 w1 v) off2 w2 = extractBits word off2 w2 :=
  extractBits_congr h2 fun _ hi =>
    depositBits_getLsbD_of_not_inField h1 word hv (Nat.lt_of_lt_of_le hi.2 (Nat.sub_le 32 off2))
      fun hi1 => not_inField_of_disjoint h1 h2 hd hi1 hi

/-- Deposits to disjoint fields give the same word in either order (R88 (c)). -/
theorem depositBits_comm (h1 : legalPos off1 w1 = true) (h2 : legalPos off2 w2 = true)
    (hd : off1 + w1 ≤ off2 ∨ off2 + w2 ≤ off1) (word : Word) {v1 v2 : Word}
    (hv1 : v1.toNat < 2 ^ w1) (hv2 : v2.toNat < 2 ^ w2) :
    depositBits (depositBits word off1 w1 v1) off2 w2 v2 = depositBits (depositBits word off2 w2 v2) off1 w1 v1 := by
  refine BitVec.eq_of_getLsbD_eq fun i hi => ?_
  rw [depositBits_getLsbD h2 _ hv2 hi, depositBits_getLsbD h1 _ hv1 hi, depositBits_getLsbD h1 _ hv1 hi,
    depositBits_getLsbD h2 _ hv2 hi]
  by_cases hf1 : InField off1 w1 i
  · rw [if_neg (not_inField_of_disjoint h1 h2 hd hf1), if_pos hf1, if_pos hf1]
  · rw [if_neg hf1, if_neg hf1]

/-- A field inside a field is read by the same formula over the outer field's value (R88 (d)). -/
theorem extractIn_extractBits (h1 : legalPos off1 w1 = true) (h2 : legalPos off2 w2 = true)
    (hlo : off1 ≤ off2) (hhi : off2 + w2 ≤ off1 + w1) (word : Word) :
    extractIn w1 (extractBits word off1 w1) (off2 - off1) w2 = extractBits word off2 w2 := by
  obtain ⟨-, hw1, -, hs1⟩ := legalPos_iff.1 h1
  obtain ⟨-, hw2, -, hs2⟩ := legalPos_iff.1 h2
  refine BitVec.eq_of_getLsbD_eq fun i _ => ?_
  rw [extractIn, BitVec.getLsbD_and, BitVec.getLsbD_ushiftRight, mask_getLsbD hw2, extractBits_getLsbD h1,
    extractBits_getLsbD h2]
  by_cases hi : i < w2
  · have hinner : w1 - w2 - (off2 - off1) + i < w1 := by omega
    have hplace : shamt off1 w1 + (w1 - w2 - (off2 - off1) + i) = shamt off2 w2 + i := by
      simp only [shamt]
      omega
    rw [decide_eq_true hi, decide_eq_true hinner, Bool.and_true, hplace]
  · rw [decide_eq_false hi, Bool.and_false, Bool.false_and]

end

/-- The whole word has one legal offset (R85). -/
theorem legalPos_wholeWord_iff {off : Nat} : legalPos off 32 = true ↔ off = 0 := by
  rw [legalPos_iff]
  omega

/-- The shifted mask of the whole word has every bit (R85). -/
theorem shiftedMask_wholeWord : shiftedMask 0 32 = BitVec.allOnes 32 := by decide

/-- The whole word is read as it is (R85). -/
theorem extractBits_wholeWord (word : Word) : extractBits word 0 32 = word := by
  rw [extractBits, show shamt 0 32 = 0 from rfl, show mask 32 = BitVec.allOnes 32 by decide, BitVec.ushiftRight_zero,
    BitVec.and_allOnes]

/-- Nothing of the old word is kept under the shifted mask of the whole word (R85). -/
theorem and_not_shiftedMask_wholeWord (word : Word) : word &&& ~~~(shiftedMask 0 32) = 0 := by
  rw [shiftedMask_wholeWord, BitVec.not_allOnes]
  exact BitVec.and_zero

/-- The whole word is replaced by the value (R85). -/
theorem depositBits_wholeWord (word v : Word) : depositBits word 0 32 v = v := by
  rw [depositBits, and_not_shiftedMask_wholeWord, show shamt 0 32 = 0 from rfl, BitVec.shiftLeft_zero]
  exact BitVec.zero_or

/-- Settles O48: the bits of the field are the value's after a deposit, and it has no others. -/
theorem depositThenExtractGivesTheValue : Obligations.DepositThenExtractGivesTheValue := by
  intro word value off w h1 hw ho hs hle
  have hpos : legalPos off w = true := legalPos_iff.2 ⟨h1, hw, ho, hs⟩
  have hv := lt_two_pow_of_le_pred hle
  refine ⟨_, deposit_of_fits hpos word hv, ?_⟩
  rw [extract_of_legal hpos, extractBits_depositBits hpos word hv]

/-- Settles O49: a wire bit outside the field is not in its slice, so it comes from the old word. -/
theorem depositPreservesEveryOtherBit : Obligations.DepositPreservesEveryOtherBit := by
  intro word value off w h1 hw ho hs hle
  have hpos : legalPos off w = true := legalPos_iff.2 ⟨h1, hw, ho, hs⟩
  have hv := lt_two_pow_of_le_pred hle
  refine ⟨_, deposit_of_fits hpos word hv, fun k hk hout => ?_, depositBits_and_not_shiftedMask hpos word hv⟩
  have hf : ¬ InField off w (31 - k) := by
    rw [inField_wire_iff hpos hk]
    omega
  exact depositBits_getLsbD_of_not_inField hpos word hv (by omega) hf

/-- Settles O50: each law of R88 is the law of the formulas, for operands that fit. -/
theorem depositObeysTheAlgebraicLaws : Obligations.DepositObeysTheAlgebraicLaws := by
  intro word v1 v2 off1 w1 off2 w2 h1 h2
  obtain ⟨-, hw1, -, -⟩ := legalPos_iff.1 h1
  refine ⟨?writeBack, fun hv1 hv2 => ?lastWins, fun hv1 hv2 hd => ?disjoint, fun hlo hhi => ?nested⟩
  case writeBack =>
    refine ⟨_, extract_of_legal h1 word, ?_⟩
    rw [deposit_of_fits h1 word (extractBits_fits hw1 word), depositBits_extractBits h1]
  case lastWins =>
    refine ⟨_, deposit_of_fits h1 word hv1, ?_, ?_⟩
    · rw [deposit_of_fits h1 _ hv2, deposit_of_fits h1 _ hv2, depositBits_last_wins h1 word hv1 hv2]
    · rw [deposit_of_fits h1 _ hv1, depositBits_last_wins h1 word hv1 hv1]
  case disjoint =>
    refine ⟨_, _, _, deposit_of_fits h1 word hv1, deposit_of_fits h2 _ hv2, deposit_of_fits h2 word hv2, ?_, ?_⟩
    · rw [deposit_of_fits h1 _ hv1, depositBits_comm h1 h2 hd word hv1 hv2]
    · rw [extract_of_legal h2, extract_of_legal h2, extractBits_depositBits_of_disjoint h1 h2 hd word hv1]
  case nested =>
    refine ⟨_, extract_of_legal h1 word, ?_⟩
    rw [extract_of_legal h2, ← extractIn_extractBits h1 h2 hlo hhi word, extractIn, mask]

/-- Settles O52: the field lies within the word, so a product of a value that fits and `2^Shamt` stays below `2^32`. -/
theorem shiftsLoseNoBits : Obligations.ShiftsLoseNoBits := by
  intro off w v h1 hw ho hs
  have hpos : legalPos off w = true := legalPos_iff.2 ⟨h1, hw, ho, hs⟩
  have hsum := width_add_shamt hpos
  refine ⟨by omega, hsum, ?_, fun hle => toNat_shiftLeft_shamt hpos (fits_of_le_mask hw hle)⟩
  rw [toNat_shiftLeft_shamt hpos (mask_fits hw), mask_toNat hw]

/-- Settles O51: at width 32 the shift is 0 and the mask has every bit, so the formulas take and give the whole word. -/
theorem wholeWordFieldsBypassMasking : Obligations.WholeWordFieldsBypassMasking := by
  intro word value off
  have hpos : legalPos 0 32 = true := legalPos_wholeWord_iff.2 rfl
  refine ⟨legalPos_wholeWord_iff, by decide, rfl, by decide, and_not_shiftedMask_wholeWord word, ?_, ?_⟩
  · rw [extract_of_legal hpos, extractBits_wholeWord]
  · rw [deposit_of_fits hpos word value.isLt, depositBits_wholeWord]

end Sys2Proof.Machine
end

section
/-!
The value of a field in a state (spec/41_container_ops.md R104 to R107): GET answers the value the field holds, a
SET that is accepted gives its own field the value and keeps every disjoint field, and a command that writes no bit of a
field keeps what the field holds.
-/

namespace Sys2Proof.Machine

/-- The response of a command that answers a next state. -/
theorem answer_of_next {i : Instr} {s t : State} (h : exec i s = .next t) : answer i s = t.rsp := by
  rw [answer, after, h, Option.bind_some]

/-- Driving a response changes no field. -/
@[simp] theorem State.field_respond (s : State) (r : Response) (d : FieldDesc) : (s.respond r).field d = s.field d := rfl

/-- Reporting `OutOfRange` changes no field (R206). -/
@[simp] theorem State.field_raiseOutOfRange (s : State) (d : FieldDesc) : (raiseOutOfRange s).field d = s.field d := rfl

/-- A field of a word just written holds its bits of that word. -/
theorem State.field_writeWord_self {s : State} {d : FieldDesc} (h : d.widx < s.W.length) (x : Word) :
    (s.writeWord d.widx x).field d = extractBits x d.off d.w :=
  State.field_of_word (by rw [State.writeWord_W, List.getElem?_set_self h])

/-- Writing one word changes no field of another word (R21). -/
theorem State.field_writeWord_of_ne {s : State} {d : FieldDesc} {k : Nat} (h : k ≠ d.widx) (x : Word) :
    (s.writeWord k x).field d = s.field d := by
  rw [State.field, State.field, State.writeWord_W, List.getD_eq_getElem?_getD, List.getD_eq_getElem?_getD,
    List.getElem?_set_ne h]

/-- What it means that two descriptors share no bit (R27). -/
theorem FieldDesc.disjoint_iff {a b : FieldDesc} :
    a.disjoint b = true ↔ a.widx ≠ b.widx ∨ a.off + a.w ≤ b.off ∨ b.off + b.w ≤ a.off := by
  simp [FieldDesc.disjoint, or_assoc]

/-- Sharing no bit does not depend on the order. -/
theorem FieldDesc.disjoint_symm {a b : FieldDesc} (h : a.disjoint b = true) : b.disjoint a = true := by
  rw [FieldDesc.disjoint_iff] at h ⊢
  exact h.imp Ne.symm Or.symm

/-- A deposit into the word of a field keeps every disjoint field (R87, R106). -/
theorem State.field_writeWord_depositBits_of_disjoint {s : State} {a b : FieldDesc} {word v : Word}
    (ha : legalPos a.off a.w = true) (hb : legalPos b.off b.w = true) (hd : a.disjoint b = true)
    (hw : s.W[a.widx]? = some word) (hv : v.toNat < 2 ^ a.w) :
    (s.writeWord a.widx (depositBits word a.off a.w v)).field b = s.field b := by
  by_cases hidx : a.widx = b.widx
  · have hoff := (FieldDesc.disjoint_iff.1 hd).resolve_left (not_not_intro hidx)
    have hlt : b.widx < s.W.length := hidx ▸ (List.getElem?_eq_some_iff.1 hw).1
    rw [hidx] at hw ⊢
    rw [State.field_writeWord_self hlt, State.field_of_word hw, extractBits_depositBits_of_disjoint ha hb hoff word hv]
  · exact State.field_writeWord_of_ne hidx _

/-- GET of a row answers the value its field holds, and changes the response only (R104). -/
theorem IsGet.exec_field {j : Instr} {fid : Nat} {row : FieldRow} {s : State} (h : IsGet j s.ht fid row) :
    exec j s = .next (s.respond (valueResponse (s.field row.desc))) := by
  obtain ⟨word, hw⟩ := row_word h.row_eq
  rw [h.exec_next hw, State.field_of_word hw]

/-- The answer of GET is the value the field holds (R104). -/
theorem IsGet.answer_field {j : Instr} {ht : HeaderType} {fid : Nat} {row : FieldRow} {s : State}
    (h : IsGet j ht fid row) (hs : s.ht = ht) : answer j s = some (valueResponse (s.field row.desc)) := by
  subst hs
  exact answer_of_next h.exec_field

/-- After a SET of a value that fits, the field holds that value (R86, R107). -/
theorem IsSet.exec_fits {i : Instr} {fid : Nat} {row : FieldRow} {v : Word} {s : State}
    (h : IsSet i s.ht fid row v) (hv : v.toNat < 2 ^ row.desc.w) :
    ∃ t, exec i s = .next t ∧ t.ht = s.ht ∧ t.field row.desc = v := by
  obtain ⟨word, hw⟩ := row_word h.row_eq
  obtain ⟨hlegal, -⟩ := row_legal h.row_eq
  refine ⟨_, h.exec_accept hw hv, State.writeWord_ht .., ?_⟩
  rw [State.field_respond, State.field_writeWord_self (List.getElem?_eq_some_iff.1 hw).1,
    extractBits_depositBits hlegal word hv]

/-- A SET keeps a field when its value does not fit, and when its own field is disjoint from it (R106). -/
theorem IsSet.keeps_field {i : Instr} {ht : HeaderType} {fid : Nat} {row : FieldRow} {v : Word} {s t : State}
    {d : FieldDesc} (h : IsSet i ht fid row v) (hx : exec i s = .next t) (hd : legalPos d.off d.w = true)
    (hkeep : exceeds row.desc.w v = true ∨ row.desc.disjoint d = true) : t.field d = s.field d := by
  obtain ⟨-, hlegal, word, hw, ⟨-, rfl⟩ | ⟨hfits, rfl⟩⟩ := setField_next (h.exec_eq s ▸ hx)
  · exact State.field_raiseOutOfRange s d
  · obtain ⟨-, hwidth, -, -⟩ := legalPos_iff.1 hlegal
    have hdisj := hkeep.resolve_left (Bool.eq_false_iff.1 hfits)
    rw [State.field_respond, State.field_writeWord_depositBits_of_disjoint hlegal hd hdisj hw
      (fits_of_not_exceeds hwidth hfits)]

/-- The row a SET names is its row (R26, R64). -/
theorem IsSet.fieldRow_eq {i : Instr} {ht : HeaderType} {fid : Nat} {row : FieldRow} {v : Word}
    (h : IsSet i ht fid row v) : fieldRow i = some row := by
  rw [fieldRow, h.header, Option.bind_some, h.fid_eq, h.row_eq]

/-- A SET writes no bit of a field when its value does not fit or its own field is disjoint from it (R107). -/
theorem IsSet.writesBitsOf_eq_false_iff {i : Instr} {ht : HeaderType} {fid : Nat} {row : FieldRow} {v : Word}
    (h : IsSet i ht fid row v) (d : FieldDesc) :
    writesBitsOf i d = false ↔ exceeds row.desc.w v = true ∨ row.desc.disjoint d = true := by
  rw [or_iff_not_imp_left, Bool.not_eq_true]
  simp [writesBitsOf, h.op, h.fieldRow_eq, h.value]

/-- A command that writes no bit of a field keeps what the field holds (R107). -/
theorem exec_keeps_field {k : Instr} {s t : State} {d : FieldDesc} (hd : legalPos d.off d.w = true)
    (hno : writesBitsOf k d = false) (hx : exec k s = .next t) : t.field d = s.field d := by
  rcases exec_cases k with rfl | ⟨b, rfl⟩ | rfl | ⟨ht, fid, row, hg⟩ | ⟨ht, fid, row, v, hs⟩
  · cases hno
  · cases hno
  · obtain rfl := storeBuffer_next hx
    exact State.field_respond ..
  · obtain ⟨-, -, word, -, rfl⟩ := getField_next (hg.exec_eq s ▸ hx)
    exact State.field_respond ..
  · exact hs.keeps_field hx hd ((hs.writesBitsOf_eq_false_iff d).1 hno)

/-- What the byte of GET decodes to is GET of its row (R62, R64). -/
theorem isGet_of_decode {ht : HeaderType} {fid : Nat} {row : FieldRow} {v : Word} {b : List Byte} {j : Instr}
    (hrow : (fields ht)[fid]? = some row) (h : decode ht ⟨getCmd fid, v, b⟩ = .ok j) : IsGet j ht fid row := by
  obtain ⟨j', hd, hg⟩ := decode_getCmd v b hrow
  cases h.symm.trans hd
  exact hg

/-- What the byte of SET decodes to is SET of its row to the value port (R62, R64). -/
theorem isSet_of_decode {ht : HeaderType} {fid : Nat} {row : FieldRow} {v : Word} {b : List Byte} {i : Instr}
    (hrow : (fields ht)[fid]? = some row) (h : decode ht ⟨setCmd fid, v, b⟩ = .ok i) : IsSet i ht fid row v := by
  obtain ⟨i', hd, hs⟩ := decode_setCmd v b hrow
  cases h.symm.trans hd
  exact hs

end Sys2Proof.Machine
end

section
/-!
Round trip over a whole container (spec/41_container_ops.md R107): a list of commands keeps what each of them keeps,
so after a SET of a value that fits the field holds the value until a command writes bits of the field.
-/

namespace Sys2Proof.Machine

/-- What every command of a list keeps, the list keeps. -/
theorem execAll_keeps {P : State → Prop} {cmds : List Instr} {s t : State}
    (hstep : ∀ k ∈ cmds, ∀ s t, exec k s = .next t → P s → P t) (h : execAll cmds s = some t) (hs : P s) : P t := by
  induction cmds generalizing s with
  | nil =>
    cases h
    exact hs
  | cons k ks ih =>
    obtain ⟨hk, hks⟩ := List.forall_mem_cons.1 hstep
    obtain ⟨u, hx, hrest⟩ := execAll_cons_eq_some.1 h
    exact ih hks hrest (hk s u hx hs)

/-- No list of commands changes the header type (R25). -/
theorem execAll_ht {cmds : List Instr} {s t : State} (h : execAll cmds s = some t) : t.ht = s.ht :=
  execAll_keeps (P := fun u => u.ht = s.ht) (fun _ _ _ _ hx hu => (exec_frame hx).1.trans hu) h rfl

/-- A list of commands none of which writes bits of a field keeps what the field holds (R107). -/
theorem execAll_keeps_field {cmds : List Instr} {s t : State} {d : FieldDesc} (hd : legalPos d.off d.w = true)
    (hno : ∀ k ∈ cmds, writesBitsOf k d = false) (h : execAll cmds s = some t) : t.field d = s.field d :=
  execAll_keeps (P := fun u => u.field d = s.field d)
    (fun k hk _ _ hx hu => (exec_keeps_field hd (hno k hk) hx).trans hu) h rfl

/-- Settles O35: the SET gives the field its value, and commands that write no bit of the field keep it there. -/
theorem setThenGetUntilOverwritten : Obligations.SetThenGetUntilOverwritten := by
  intro ht fid row v b i j s hrow hv hs hi hj
  have hset := isSet_of_decode hrow hi
  have hget := isGet_of_decode hrow hj
  have hround : ∀ s : State, s.ht = ht → ∃ t, exec i s = .next t ∧ t.ht = ht ∧ t.field row.desc = v := by
    rintro s rfl
    exact hset.exec_fits hv
  have hanswer : ∀ t : State, t.ht = ht → t.field row.desc = v → answer j t = some (valueResponse v) := by
    rintro t hht rfl
    exact hget.answer_field hht
  obtain ⟨r, hxr, hhtr, hfr⟩ := hround (State.resetOf ht) (State.resetOf_ht ht)
  obtain ⟨u, hx, hht, hf⟩ := hround s hs
  refine ⟨⟨r, hxr, hanswer r hhtr hfr⟩, ⟨u, hx, hanswer u hht hf⟩, fun cmds t hno hall => ?_⟩
  obtain ⟨u', hx', hrest⟩ := execAll_cons_eq_some.1 hall
  cases hx.symm.trans hx'
  exact hanswer t ((execAll_ht hrest).trans hht)
    ((execAll_keeps_field (row_legal hrow).1 hno hrest).trans hf)

end Sys2Proof.Machine
end

section
/-!
Non-interference (spec/41_container_ops.md R106). The leaf fields of a table share no bit (R27), so a SET of one keeps
every other; a failed SET keeps all of them. A composite shares bits with its members.
-/

namespace Sys2Proof.Machine

/-- The check of the layout compares every descriptor with every later one (R27). -/
theorem pairwiseDisjoint_iff {ds : List FieldDesc} :
    pairwiseDisjoint ds = true ↔ ds.Pairwise (fun a b => a.disjoint b = true) := by
  induction ds with
  | nil => simp [pairwiseDisjoint]
  | cons d ds ih => simp [pairwiseDisjoint, ih]

/-- In a table that passes the check, two leaf rows at different places share no bit (R27). -/
theorem leaf_disjoint_of_pairwiseDisjoint {rows : List FieldRow} (h : pairwiseDisjoint (leafDescs rows) = true)
    {f g : Nat} {rf rg : FieldRow} (hf : rows[f]? = some rf) (hg : rows[g]? = some rg)
    (hlf : rf.isLeaf = true) (hlg : rg.isLeaf = true) (hne : f ≠ g) : rf.desc.disjoint rg.desc = true := by
  rw [pairwiseDisjoint_iff, leafDescs, List.pairwise_map, List.pairwise_filter, List.pairwise_iff_getElem] at h
  obtain ⟨hfl, rfl⟩ := List.getElem?_eq_some_iff.1 hf
  obtain ⟨hgl, rfl⟩ := List.getElem?_eq_some_iff.1 hg
  rcases Nat.lt_or_gt_of_ne hne with hlt | hlt
  · exact h f g hfl hgl hlt hlf hlg
  · exact FieldDesc.disjoint_symm (h g f hgl hfl hlt hlg hlf)

/-- The leaf fields of the shipped tables share no bit (R27). -/
theorem leafDescs_pairwiseDisjoint (ht : HeaderType) : pairwiseDisjoint (leafDescs (fields ht)) = true := by
  cases ht <;> decide

/-- GET answers the same in two states of one instance in which its field holds the same value (R104). -/
theorem IsGet.answer_same {j : Instr} {fid : Nat} {row : FieldRow} {s t : State} (h : IsGet j s.ht fid row)
    (hht : t.ht = s.ht) (hf : t.field row.desc = s.field row.desc) :
    ∃ x, answer j s = some (valueResponse x) ∧ answer j t = some (valueResponse x) :=
  ⟨_, h.answer_field rfl, hf ▸ h.answer_field hht⟩

/-- A SET that reports the error had a value that does not fit (R200). -/
theorem IsSet.exceeds_of_err {i : Instr} {ht : HeaderType} {fid : Nat} {row : FieldRow} {v : Word} {s t : State}
    (h : IsSet i ht fid row v) (hx : exec i s = .next t) (herr : t.rsp = some errResponse) :
    exceeds row.desc.w v = true := by
  obtain ⟨-, -, word, -, ⟨he, -⟩ | ⟨-, rfl⟩⟩ := setField_next (h.exec_eq s ▸ hx)
  · exact he
  · cases herr

/-- A SET of a member changes what GET of its composite answers (R112): PRECEDENCE and TOS. -/
theorem exists_setPrecedence_changes_getTos : ∃ s t : State, s.wf ∧ exec (.setIpv4Precedence 7) s = .next t ∧
    answer .getIpv4Tos s ≠ answer .getIpv4Tos t := by
  refine ⟨State.resetOf .ipv4, ⟨.ipv4 0x00E00000 0 0 0 0 0, [], some okResponse⟩, ?_, rfl, by decide⟩
  simp [State.wf]

/-- Settles O33: the SET keeps every disjoint field, two leaf fields are disjoint, and a failed SET keeps all. -/
theorem setNeverDisturbsAnotherLeafField : Obligations.SetNeverDisturbsAnotherLeafField := by
  refine ⟨fun ht f g rf rg v b i j s t hf hg hs hi hj hx => ?_, exists_setPrecedence_changes_getTos⟩
  subst hs
  have hset := isSet_of_decode hf hi
  have hget := isGet_of_decode hg hj
  obtain ⟨hht, -⟩ := exec_frame hx
  have hkeep := fun h => hget.answer_same hht (hset.keeps_field hx (row_legal hg).1 h)
  refine ⟨fun hlf hlg hne => hkeep (.inr ?_), fun herr => hkeep (.inl (hset.exceeds_of_err hx herr))⟩
  exact leaf_disjoint_of_pairwiseDisjoint (leafDescs_pairwiseDisjoint _) hf hg hlf hlg hne

end Sys2Proof.Machine
end

section
/-!
The cleared container (spec/41_container_ops.md R101): zero words are zero fields and zero bytes.
-/

namespace Sys2Proof.Machine

/-- A zero word has zero fields (R83). -/
@[simp] theorem extractBits_zero (off w : Nat) : extractBits 0 off w = 0 := by
  exact (congrArg (· &&& mask w) BitVec.zero_ushiftRight).trans BitVec.zero_and

/-- Where every word is 0 every field holds 0 (R101). -/
theorem State.field_of_zero_words {s : State} {n : Nat} (h : s.W = List.replicate n 0) (d : FieldDesc) :
    s.field d = 0 := by
  have hzero : s.W.getD d.widx 0 = 0 := by
    rw [h, List.getD_eq_getElem?_getD, List.getElem?_replicate]
    split <;> rfl
  rw [State.field, hzero, extractBits_zero]

/-- Zero words are zero bytes (R41, R101). -/
theorem bytesOfWords_replicate_zero (n : Nat) : bytesOfWords (List.replicate n 0) = List.replicate (4 * n) 0 := by
  induction n with
  | zero => rfl
  | succ n ih =>
    rw [List.replicate_succ, bytesOfWords, ih, Nat.mul_succ, Nat.add_comm, List.replicate_add]
    rfl

/-- A well-formed command with the operation code of GET is GET of a row (R62, R64). -/
theorem exists_isGet_of_wf {i : Instr} {ht : HeaderType} (hwf : i.wf ht = true) (hop : i.op = 0b100#3) :
    ∃ fid row, IsGet i ht fid row := by
  rcases IsRead.stb_or_isGet (.inl hop) with rfl | ⟨ht', fid, row, hg⟩
  · cases hop
  · obtain rfl := hg.header_eq_of_wf hwf
    exact ⟨fid, row, hg⟩

/-- The instance after CLR (R101). -/
def State.cleared (s : State) : State := (s.setContainer (Container.zero s.ht)).respond okResponse

@[simp] theorem State.cleared_ht (s : State) : s.cleared.ht = s.ht := Container.zero_ht s.ht

@[simp] theorem State.cleared_W (s : State) : s.cleared.W = List.replicate s.ht.numWords 0 := Container.zero_words s.ht

/-- CLR answers the cleared instance in every state (R101). -/
theorem exec_clr (s : State) : exec .clr s = .next s.cleared := rfl

/-- CLR changes nothing in a cleared instance (R101). -/
theorem exec_clr_cleared (s : State) : exec .clr s.cleared = .next s.cleared := exec_repeat (exec_clr s)

/-- Every GET of a cleared instance answers 0 (R101). -/
theorem exec_get_cleared {i : Instr} {s : State} (hwf : i.wf s.ht = true) (hop : i.op = 0b100#3) :
    exec i s.cleared = .next (s.cleared.respond (valueResponse 0)) := by
  rw [← s.cleared_ht] at hwf
  obtain ⟨fid, row, hg⟩ := exists_isGet_of_wf hwf hop
  rw [hg.exec_field, State.field_of_zero_words s.cleared_W]

/-- STB of a cleared instance answers `BYTES` zero bytes (R101). -/
theorem exec_stb_cleared (s : State) :
    exec .stb s.cleared = .next (s.cleared.respond (dataResponse (List.replicate s.ht.numBytes 0))) := by
  rw [HeaderType.numBytes, ← bytesOfWords_replicate_zero, ← s.cleared_W]
  rfl

/-- The byte of CLR decodes to CLR, whatever the operand ports (R62, R101). -/
theorem decode_clr (ht : HeaderType) (v : Word) (b : List Byte) : decode ht ⟨0x20#8, v, b⟩ = .ok .clr := by
  simp [decode, cmdOp, cmdFid]

/-- Settles O16: what CLR leaves, and what the reads answer there. -/
theorem clrZeroesTheContainer : Obligations.ClrZeroesTheContainer := by
  refine fun s => ⟨decode_clr s.ht, ⟨s.cleared_ht, s.cleared_W, exec_clr s, exec_clr_cleared s, fun _ => exec_get_cleared,
    exec_stb_cleared s⟩, fun hht _ => ⟨_, exec_clr s, ?_⟩⟩
  rw [s.cleared_W, hht]
  rfl

end Sys2Proof.Machine
end

section
/-!
Rejection (spec/41_container_ops.md R108): the boundary of SET on every row, and the widths in use.
-/

namespace Sys2Proof.Machine

/-- The widths the shipped layouts use (R108). -/
theorem exists_row_width_iff (w : Nat) :
    (∃ (ht : HeaderType) (fid : Nat) (row : FieldRow), (fields ht)[fid]? = some row ∧ row.desc.w = w) ↔
      w ∈ [1, 2, 3, 4, 8, 13, 16, 24, 32] := by
  constructor
  · rintro ⟨ht, fid, row, hrow, rfl⟩
    have hall : ∀ r ∈ fields ht, r.desc.w ∈ [1, 2, 3, 4, 8, 13, 16, 24, 32] := by cases ht <;> decide
    exact hall row (List.mem_of_getElem? hrow)
  · have hall : ∀ w ∈ [1, 2, 3, 4, 8, 13, 16, 24, 32], w ∈ (fields .ipv4).map (·.desc.w) := by decide
    intro hw
    obtain ⟨row, hmem, rfl⟩ := List.mem_map.1 (hall w hw)
    obtain ⟨fid, hrow⟩ := List.mem_iff_getElem?.1 hmem
    exact ⟨.ipv4, fid, row, hrow, rfl⟩

/-- Settles O36: a SET is rejected from `2^w` on and accepted below, and the widths are those of the tables. -/
theorem tooLargeValuesAreRejected : Obligations.TooLargeValuesAreRejected := by
  refine ⟨fun ht fid row v b hrow => ?_, exists_row_width_iff, by decide, fun v => Nat.le_of_lt_succ v.isLt⟩
  obtain ⟨i, hi, hset⟩ := decode_setCmd v b hrow
  refine ⟨i, hi, ?_⟩
  rintro s rfl
  obtain ⟨word, hw⟩ := row_word hrow
  exact ⟨fun hgt => hset.exec_reject hw (Nat.le_of_pred_lt hgt),
    fun hle => ⟨_, Container.setWord_ht .., hset.exec_accept hw (lt_two_pow_of_le_pred hle)⟩⟩

end Sys2Proof.Machine
end

section
/-!
The one error (spec/60_exceptions.md R200). Every command of the instance answers; the response of a SET says
`OutOfRange` exactly when its value does not fit, and the response of any other command never does.
-/

namespace Sys2Proof.Machine

/-- A next state whose response has `err = 1` (R66, R201). -/
def State.ReportsError (t : State) : Prop := ∃ r, t.rsp = some r ∧ r.err = true

/-- Whether a state reports the error is read off its response. -/
theorem State.reportsError_iff {t : State} {r : Response} (h : t.rsp = some r) : t.ReportsError ↔ r.err = true := by
  simp [State.ReportsError, h]

/-- The commands with the operation code of SET are the SETs of the rows (R62, R64). -/
theorem op_eq_set_iff {i : Instr} : i.op = 0b101#3 ↔ ∃ ht fid row v, IsSet i ht fid row v := by
  constructor
  · intro hop
    rcases exec_cases i with rfl | ⟨b, rfl⟩ | rfl | ⟨ht, fid, row, hg⟩ | hs
    · cases hop
    · cases hop
    · cases hop
    · cases hg.op.symm.trans hop
    · exact hs
  · rintro ⟨ht, fid, row, v, hs⟩
    exact hs.op

/-- Every well-formed command answers a next state (R100). -/
theorem exec_completes {i : Instr} {s : State} (hwf : i.wf s.ht = true) : ∃ t, exec i s = .next t := by
  rcases exec_cases i with rfl | ⟨b, rfl⟩ | rfl | ⟨ht, fid, row, hg⟩ | ⟨ht, fid, row, v, hs⟩
  · exact ⟨_, exec_clr s⟩
  · exact ⟨_, if_pos (of_decide_eq_true hwf)⟩
  · exact ⟨_, rfl⟩
  · obtain rfl := header_eq_of_wf hg.header hwf
    exact ⟨_, hg.exec_field⟩
  · obtain rfl := header_eq_of_wf hs.header hwf
    obtain ⟨word, hw⟩ := row_word hs.row_eq
    rcases Nat.lt_or_ge v.toNat (2 ^ row.desc.w) with hv | hv
    · exact ⟨_, hs.exec_accept hw hv⟩
    · exact ⟨_, hs.exec_reject hw hv⟩

/-- A command other than SET answers without an error (R200). -/
theorem exec_err_false_of_op_ne_set {i : Instr} {s t : State} (hop : i.op ≠ 0b101#3) (hx : exec i s = .next t) :
    ∃ r, t.rsp = some r ∧ r.err = false := by
  rcases exec_cases i with rfl | ⟨b, rfl⟩ | rfl | ⟨ht, fid, row, hg⟩ | ⟨ht, fid, row, v, hs⟩
  · obtain rfl := clearAll_next hx
    exact ⟨_, rfl, rfl⟩
  · obtain ⟨-, rfl⟩ := loadBuffer_next hx
    exact ⟨_, rfl, rfl⟩
  · obtain rfl := storeBuffer_next hx
    exact ⟨_, rfl, rfl⟩
  · obtain ⟨-, -, word, -, rfl⟩ := getField_next (hg.exec_eq s ▸ hx)
    exact ⟨_, rfl, rfl⟩
  · exact absurd hs.op hop

/-- The two outcomes of a SET: its value does not fit and it reports that, or it fits and there is no error (R105). -/
theorem IsSet.rejected_or_accepted {i : Instr} {ht : HeaderType} {fid : Nat} {row : FieldRow} {v : Word} {s t : State}
    (h : IsSet i ht fid row v) (hx : exec i s = .next t) :
    (2 ^ row.desc.w ≤ v.toNat ∧ t = raiseOutOfRange s) ∨ (v.toNat < 2 ^ row.desc.w ∧ t.rsp = some okResponse) := by
  obtain ⟨-, hlegal, word, -, hcases⟩ := setField_next (h.exec_eq s ▸ hx)
  obtain ⟨-, hwidth, -, -⟩ := legalPos_iff.1 hlegal
  rcases hcases with ⟨he, rfl⟩ | ⟨he, rfl⟩
  · exact .inl ⟨(exceeds_iff hwidth v).1 he, rfl⟩
  · exact .inr ⟨fits_of_not_exceeds hwidth he, rfl⟩

/-- A SET reports the error exactly when its value does not fit (R200). -/
theorem IsSet.reportsError_iff {i : Instr} {ht : HeaderType} {fid : Nat} {row : FieldRow} {v : Word} {s t : State}
    (h : IsSet i ht fid row v) (hx : exec i s = .next t) : t.ReportsError ↔ 2 ^ row.desc.w ≤ v.toNat := by
  rcases h.rejected_or_accepted hx with ⟨hv, rfl⟩ | ⟨hv, hrsp⟩
  · simp [State.reportsError_iff (raiseOutOfRange_rsp s), errResponse, hv]
  · simp [State.reportsError_iff hrsp, okResponse, hv]

/-- A response with `err = 1` is that of a SET, and nothing but the response changed (R200, R206). -/
theorem exec_reportsError {i : Instr} {s t : State} (hx : exec i s = .next t) (herr : t.ReportsError) :
    i.op = 0b101#3 ∧ t = raiseOutOfRange s := by
  by_cases hop : i.op = 0b101#3
  · obtain ⟨ht, fid, row, v, hs⟩ := op_eq_set_iff.1 hop
    rcases hs.rejected_or_accepted hx with ⟨-, rfl⟩ | ⟨-, hrsp⟩
    · exact ⟨hop, rfl⟩
    · cases (State.reportsError_iff hrsp).1 herr
  · obtain ⟨r, hrsp, hr⟩ := exec_err_false_of_op_ne_set hop hx
    cases hr.symm.trans ((State.reportsError_iff hrsp).1 herr)

/-- A value is above `2^w - 1` exactly when it does not fit in `w` bits (R200). -/
theorem pred_two_pow_lt_iff {w n : Nat} : 2 ^ w - 1 < n ↔ 2 ^ w ≤ n := by
  have hpos := Nat.two_pow_pos w
  omega

/-- The error is reported exactly by a SET whose value is above the largest of its field (R200). -/
theorem exec_reportsError_iff {i : Instr} {s t : State} (hx : exec i s = .next t) :
    t.ReportsError ↔
      i.op = 0b101#3 ∧ ∃ row, fieldRow i = some row ∧ 2 ^ row.desc.w - 1 < i.valueOperand.toNat := by
  constructor
  · intro herr
    obtain ⟨hop, -⟩ := exec_reportsError hx herr
    obtain ⟨ht, fid, row, v, hs⟩ := op_eq_set_iff.1 hop
    refine ⟨hop, row, hs.fieldRow_eq, pred_two_pow_lt_iff.2 ?_⟩
    rw [hs.value]
    exact (hs.reportsError_iff hx).1 herr
  · rintro ⟨hop, row', hrow', hv⟩
    obtain ⟨ht, fid, row, v, hs⟩ := op_eq_set_iff.1 hop
    obtain rfl : row = row' := Option.some.inj (hs.fieldRow_eq.symm.trans hrow')
    rw [hs.value, pred_two_pow_lt_iff] at hv
    exact (hs.reportsError_iff hx).2 hv

/-- The answer of a SET whose value does not fit (R105, R201). -/
theorem IsSet.answer_reject {i : Instr} {ht : HeaderType} {fid : Nat} {row : FieldRow} {v : Word} {s : State}
    (h : IsSet i ht fid row v) (hs : s.ht = ht) (hv : 2 ^ row.desc.w ≤ v.toNat) : answer i s = some errResponse := by
  subst hs
  obtain ⟨word, hw⟩ := row_word h.row_eq
  exact answer_of_next (h.exec_reject hw hv)

/-- The answer of a SET whose value fits (R105). -/
theorem IsSet.answer_accept {i : Instr} {ht : HeaderType} {fid : Nat} {row : FieldRow} {v : Word} {s : State}
    (h : IsSet i ht fid row v) (hs : s.ht = ht) (hv : v.toNat < 2 ^ row.desc.w) : answer i s = some okResponse := by
  subst hs
  obtain ⟨word, hw⟩ := row_word h.row_eq
  exact answer_of_next (h.exec_accept hw hv)

/-- Below 32 bits there is a word that does not fit: `2^w` itself (R200). -/
theorem exists_word_not_fits {w : Nat} (h : w ≤ 31) : ∃ v : Word, 2 ^ w ≤ v.toNat :=
  ⟨BitVec.twoPow 32 w, by rw [BitVec.toNat_twoPow_of_lt (Nat.lt_succ_of_le h)]⟩

/-- Settles O37: only a SET can report the error, and does so when its value does not fit, which needs a field narrower
than a word. -/
theorem outOfRangeComesFromSetOnly : Obligations.OutOfRangeComesFromSetOnly := by
  refine ⟨fun i s t hx => ⟨exec_reportsError_iff hx, fun hop => exec_err_false_of_op_ne_set hop hx⟩,
    fun i s hwf hop => ?_, fun ht fid row hrow => ⟨fun _ hw => ?_, fun hw v b => ?_⟩⟩
  · obtain ⟨t, hx⟩ := exec_completes hwf
    obtain ⟨r, hrsp, hr⟩ := exec_err_false_of_op_ne_set hop hx
    exact ⟨t, r, hx, hrsp, hr⟩
  · obtain ⟨v, hv⟩ := exists_word_not_fits hw
    refine ⟨v, fun b => ?_⟩
    obtain ⟨i, hi, hset⟩ := decode_setCmd v b hrow
    exact ⟨i, hi, hset.answer_reject (State.resetOf_ht ht) hv⟩
  · obtain ⟨i, hi, hset⟩ := decode_setCmd v b hrow
    exact ⟨i, hi, fun s hs => hset.answer_accept hs (by rw [hw]; exact v.isLt)⟩

end Sys2Proof.Machine
end

section
/-!
The error is precise (spec/60_exceptions.md R206): a list of commands runs through the state each command leaves, and
a failed SET leaves the state it started from but for the response.
-/

namespace Sys2Proof.Machine

/-- Two lists of commands performed: the second starts from where the first ended (R50, R100). -/
theorem execAll_append_eq_some {xs ys : List Instr} {s u : State} :
    execAll (xs ++ ys) s = some u ↔ ∃ t, execAll xs s = some t ∧ execAll ys t = some u := by
  induction xs generalizing s with
  | nil => simp [execAll]
  | cons x xs ih =>
    simp only [List.cons_append, execAll_cons_eq_some, ih]
    constructor
    · rintro ⟨r, hx, t, hxs, hys⟩
      exact ⟨t, ⟨r, hx, hxs⟩, hys⟩
    · rintro ⟨t, ⟨r, hx, hxs⟩, hys⟩
      exact ⟨r, hx, t, hxs, hys⟩

/-- Settles O38: the run is cut at the command, and a failed command changes the response only. -/
theorem failedSetIsPrecise : Obligations.FailedSetIsPrecise := by
  intro before later i s u hall
  obtain ⟨s1, hbefore, hrest⟩ := execAll_append_eq_some.1 hall
  obtain ⟨t, hx, hlater⟩ := execAll_cons_eq_some.1 hrest
  refine ⟨s1, t, hbefore, hx, hlater, fun herr => ?_⟩
  obtain ⟨-, rfl⟩ := exec_reportsError hx herr
  exact ⟨rfl, raiseOutOfRange_W s1, fun k => congrArg (·.streamBit k) (raiseOutOfRange_W s1)⟩

end Sys2Proof.Machine
end

section
/-!
Reset (spec/70_reset_and_hazards.md R220, R221): what a cycle with `rst` high does, how it joins with the cycle after it,
and why every command answers after reset as it does after CLR.
-/

namespace Sys2Proof.Machine

/-- A cycle with `rst` high is a reset, whatever command is presented with it (R221). -/
theorem step_of_rst {s : State} {c : PortCycle} {rest : List PortCycle} (hp : s.port = c :: rest) (hr : c.rst = true) :
    step s = .next (resetCycle (s.setPort rest)) := by
  simp [step, fetch, hp, applyCycle, hr]

/-- A cycle that presents a request which decodes performs its command (R60, R100). -/
theorem step_of_decode_ok {s : State} {c : PortCycle} {rest : List PortCycle} {i : Instr}
    (hp : s.port = c :: rest) (hr : c.rst = false) (hv : c.valid = true) (hd : decode s.ht c.req = .ok i) :
    step s = exec i (s.setPort rest) := by
  simp [step, fetch, hp, applyCycle, hr, hv, hd]

/-- A run is its first cycle and the run from there (R224). -/
theorem trace_succ_of_next {n : Nat} {s t u : State} {p : List (Option Response)} (hs : step s = .next t)
    (hrun : trace n t = some (p, u)) : trace (n + 1) s = some (t.rsp :: p, u) := by
  simp [trace, hs, hrun]

/-- A reset does not depend on the words and the response it finds, so a reset before it makes no difference (R221). -/
theorem resetCycle_setPort_resetCycle (s : State) (p : List PortCycle) :
    resetCycle ((resetCycle s).setPort p) = resetCycle (s.setPort p) :=
  congrArg (fun ht => (⟨Container.zero ht, p, none⟩ : State)) (resetCycle_ht s)

/-- Two cycles with `rst` high give no response and end as the second alone would (R221). -/
theorem trace_two_of_rst {s : State} {c c' : PortCycle} {rest : List PortCycle} (hp : s.port = c :: c' :: rest)
    (hr : c.rst = true) (hr' : c'.rst = true) :
    trace 2 s = some ([none, none], resetCycle (s.setPort rest)) := by
  have hsecond := step_of_rst (s := resetCycle (s.setPort (c' :: rest))) rfl hr'
  rw [resetCycle_setPort_resetCycle] at hsecond
  exact trace_succ_of_next (step_of_rst hp hr) (trace_succ_of_next hsecond rfl)

/-- The command after a reset is performed on the reset instance (R221). -/
theorem step_resetCycle_of_decode_ok {s : State} {c : PortCycle} {rest : List PortCycle} {i : Instr}
    (hp : s.port = c :: rest) (hr : c.rst = false) (hv : c.valid = true) (hd : decode s.ht c.req = .ok i) :
    step (resetCycle s) = exec i (resetCycle (s.setPort rest)) :=
  step_of_decode_ok hp hr hv (by rwa [resetCycle_ht])

/-- Settles O8: the first cycle is a reset, and a second reset or a command follows on its zero state. -/
theorem resetWinsOverACommand : Obligations.ResetWinsOverACommand := by
  intro s c rest hp hr
  have hreset := step_of_rst hp hr
  refine ⟨hreset, Container.zero_ht s.ht, Container.zero_words s.ht, ?_, ?_⟩
  · rintro c' rest' rfl hr'
    exact ⟨_, trace_two_of_rst hp hr hr', rfl⟩
  · rintro c' rest' i rfl hr' hv' hd
    rw [hreset]
    exact congrArg some (step_resetCycle_of_decode_ok (s := s.setPort (c' :: rest')) rfl hr' hv' hd)

/-- After reset every command does what it does after CLR: the two differ in the response only (R101, R220). -/
theorem exec_resetCycle (i : Instr) (s : State) : exec i (resetCycle s) = exec i s.cleared :=
  (exec_respond i (resetCycle s) okResponse).symm

/-- Settles O9: a command on the reset state answers as on the cleared one, so zero for every GET and zero bytes for STB. -/
theorem resetLeavesTheZeroContainer : Obligations.ResetLeavesTheZeroContainer := by
  intro s t c rest hp hr hstep
  obtain rfl : resetCycle (s.setPort rest) = t := Host.Outcome.next.inj ((step_of_rst hp hr).symm.trans hstep)
  refine ⟨resetCycle_W _, resetCycle_ht _, fun fid v d i hd hop => ?_, ?_, s.cleared, exec_clr s, ?_⟩
  · obtain ⟨hwf, -⟩ := decode_inv hd
    exact (exec_resetCycle i _).trans (exec_get_cleared hwf hop)
  · exact (exec_resetCycle .stb _).trans (exec_stb_cleared _)
  · rw [State.cleared_W, resetCycle_W, State.setPort_ht]

end Sys2Proof.Machine
end

section
/-!
Encoder and decoder (spec/30_encoding.md R61 to R65). A field command is decoded from its own field identifier in the
table of its own header type, so encoding loses nothing; what decodes has the command byte it came from.
-/

namespace Sys2Proof.Machine

/-- A field command is what its field identifier decodes to in the table of its header type (R64). -/
theorem decode_own_fid {i : Instr} {ht : HeaderType} (h : i.header = some ht) :
    (i.op = 0b100#3 ∧ decodeGet ht i.fid.toNat = .ok i) ∨
      (i.op = 0b101#3 ∧ decodeSet ht i.valueOperand i.fid.toNat = .ok i) := by
  cases i
  case clr => cases h
  case ldb => cases h
  case stb => cases h
  all_goals
    cases h
    first
      | exact .inl ⟨rfl, rfl⟩
      | exact .inr ⟨rfl, rfl⟩

/-- The commands without a field are CLR, LDB and STB (R62). -/
theorem header_eq_none {i : Instr} (h : i.header = none) : i = .clr ∨ (∃ b, i = .ldb b) ∨ i = .stb := by
  rcases exec_cases i with rfl | ⟨b, rfl⟩ | rfl | ⟨ht, fid, row, hg⟩ | ⟨ht, fid, row, v, hs⟩
  · exact .inl rfl
  · exact .inr (.inl ⟨b, rfl⟩)
  · exact .inr (.inr rfl)
  · cases h.symm.trans hg.header
  · cases h.symm.trans hs.header

@[simp] theorem encode_cmdOp (ht : HeaderType) (i : Instr) : cmdOp (encode ht i).cmd = i.op := cmdOp_append ..

@[simp] theorem encode_cmdFid (ht : HeaderType) (i : Instr) : cmdFid (encode ht i).cmd = i.fid := cmdFid_append ..

@[simp] theorem encode_value (ht : HeaderType) (i : Instr) : (encode ht i).value = i.valueOperand := rfl

@[simp] theorem encode_ldb_data (ht : HeaderType) (b : List Byte) : (encode ht (.ldb b)).data = b := rfl

/-- The data port of an encoded command has the port's width (R65). -/
theorem encode_wf {ht : HeaderType} {i : Instr} (h : i.wf ht = true) : (encode ht i).wf ht = true := by
  refine decide_eq_true ?_
  change (i.dataOperand ht).length = ht.numBytes
  unfold Instr.dataOperand
  split
  · exact of_decide_eq_true h
  · exact List.length_replicate

/-- What a well-formed command is encoded as decodes to it (R61 to R65). -/
theorem decode_encode {ht : HeaderType} {i : Instr} (h : i.wf ht = true) : decode ht (encode ht i) = .ok i := by
  cases hh : i.header with
  | none =>
    rcases header_eq_none hh with rfl | ⟨b, rfl⟩ | rfl
    · simp [decode, Instr.op, Instr.fid]
    · have hlen : b.length = ht.numBytes := of_decide_eq_true h
      simp [decode, Instr.op, Instr.fid, hlen]
    · simp [decode, Instr.op, Instr.fid]
  | some ht' =>
    obtain rfl := header_eq_of_wf hh h
    rcases decode_own_fid hh with ⟨hop, hd⟩ | ⟨hop, hd⟩
    · simp [decode, hop, hd]
    · simp [decode, hop, hd]

/-- Settles O1: the two parts of the command byte are read back, and a field command is found again in its table. -/
theorem decodeEncodeAgree : Obligations.DecodeEncodeAgree :=
  fun _ _ h => ⟨encode_wf h, decode_encode h⟩

/-- Settles O2: the command byte is put together again from the operation code and the field identifier read off it. -/
theorem encodeDecodeAgree : Obligations.EncodeDecodeAgree := by
  intro ht r i h
  obtain ⟨hwf, hop, hfid, hvalue, hdata⟩ := decode_inv h
  refine ⟨hwf, ?_, hvalue, fun hldb => ?_⟩
  · change i.op ++ i.fid = r.cmd
    rw [hop, hfid, cmdOp_append_cmdFid]
  · rw [hdata hldb, encode_ldb_data]

/-- The byte of LDB with a buffer of the instance's size decodes to LDB of it, whatever the value port (R62, R65). -/
theorem decode_ldb {ht : HeaderType} {b : List Byte} (h : b.length = ht.numBytes) (v : Word) :
    decode ht ⟨0x40#8, v, b⟩ = .ok (.ldb b) := by
  simp [decode, cmdOp, cmdFid, h]

/-- The byte of LDB with a buffer of another size is rejected (R65, D18). -/
theorem decode_ldb_error {ht : HeaderType} {b : List Byte} (h : b.length ≠ ht.numBytes) (v : Word) :
    decode ht ⟨0x40#8, v, b⟩ = .error .bufferSize := by
  simp [decode, cmdOp, cmdFid, h]

/-- The byte of STB decodes to STB, whatever the operand ports (R62). -/
theorem decode_stb (ht : HeaderType) (v : Word) (b : List Byte) : decode ht ⟨0x60#8, v, b⟩ = .ok .stb := by
  simp [decode, cmdOp, cmdFid]

/-- Settles O3: each byte by the table of its header type. -/
theorem commandBytesDecodeAsTheSpecLists : Obligations.CommandBytesDecodeAsTheSpecLists := by
  refine fun ht v b => ⟨decode_clr ht v b, fun h => decode_ldb h v, decode_stb ht v b, ?ipv4Get, ?ipv4Set, ?udpGet,
    ?udpSet, ?tcpGet, ?tcpSet⟩
  case ipv4Get => simp [decode, cmdOp, cmdFid, decodeGet, decodeGetIpv4]
  case ipv4Set => simp [decode, cmdOp, cmdFid, decodeSet, decodeSetIpv4]
  case udpGet => simp [decode, cmdOp, cmdFid, decodeGet, decodeGetUdp]
  case udpSet => simp [decode, cmdOp, cmdFid, decodeSet, decodeSetUdp]
  case tcpGet => simp [decode, cmdOp, cmdFid, decodeGet, decodeGetTcp]
  case tcpSet => simp [decode, cmdOp, cmdFid, decodeSet, decodeSetTcp]

/-- A byte without the operation code of SET decodes alike for every value port, one without that of LDB for every data
port (R60, R72). -/
theorem decode_congr {ht : HeaderType} {c : BitVec 8} {v v' : Word} {b b' : List Byte}
    (hv : (cmdOp c).toNat = 5 → v = v') (hb : (cmdOp c).toNat = 2 → b = b') :
    decode ht ⟨c, v, b⟩ = decode ht ⟨c, v', b'⟩ := by
  unfold decode
  dsimp only
  generalize (cmdOp c).toNat = op at hv hb ⊢
  split
  case h_2 => rw [hb rfl]
  case h_5 => rw [hv rfl]
  all_goals rfl

/-- Settles O5: only the arm of SET looks at the value port, and only that of LDB at the data port. -/
theorem unusedOperandPortsAreIgnored : Obligations.UnusedOperandPortsAreIgnored := by
  intro ht c v v' b b' hv hb
  rw [← cmdOp_toNat] at hv hb
  exact decode_congr hv hb

/-- A field command of another header type is refused (R64; log entry 8). -/
theorem exec_of_header_ne {i : Instr} {s : State} {ht : HeaderType} (hh : i.header = some ht) (hne : ht ≠ s.ht) :
    exec i s = .refused .otherInstance := by
  rcases exec_cases i with rfl | ⟨b, rfl⟩ | rfl | ⟨ht', fid, row, hg⟩ | ⟨ht', fid, row, v, hs⟩
  · cases hh
  · cases hh
  · cases hh
  · obtain rfl : ht' = ht := Option.some.inj (hg.header.symm.trans hh)
    rw [hg.exec_eq, getField, if_neg hne.symm]
  · obtain rfl : ht' = ht := Option.some.inj (hs.header.symm.trans hh)
    rw [hs.exec_eq, setField, if_neg hne.symm]

/-- Settles O15: the field operations ask for their own header type first, and what decodes is well-formed. -/
theorem otherInstancesFieldsAreRefused : Obligations.OtherInstancesFieldsAreRefused := by
  refine fun s i ht hh hne => ⟨exec_of_header_ne hh hne, fun r hd => ?_⟩
  obtain ⟨hwf, -⟩ := decode_inv hd
  exact hne (header_eq_of_wf hh hwf)

end Sys2Proof.Machine
end

section
/-!
Cycles and runs (spec/41_container_ops.md R100; spec/30_encoding.md R60, R72). Whatever a cycle does, it takes its entry
from the port and keeps the header type, and its response has the form of R66; so the invariant holds along every run,
and a run on a stream of legal cycles never stops.
-/

namespace Sys2Proof.Machine

/-- Past the end of the port's list a cycle is idle (log entry 2). -/
theorem step_of_port_nil {s : State} (hp : s.port = []) : step s = .next (idleCycle s) := by
  simp [step, fetch, hp]

/-- A cycle with `rst` and `req_valid` low is idle (R72). -/
theorem step_of_not_valid {s : State} {c : PortCycle} {rest : List PortCycle} (hp : s.port = c :: rest)
    (hr : c.rst = false) (hv : c.valid = false) : step s = .next (idleCycle (s.setPort rest)) := by
  simp [step, fetch, hp, applyCycle, hr, hv]

/-- Settles O6: the cycle is fetched, decoded and performed. -/
theorem stepPerformsThePresentedCommand : Obligations.StepPerformsThePresentedCommand :=
  fun _ _ _ _ => step_of_decode_ok

/-- Settles O7: an idle cycle drives no response and does nothing else. -/
theorem idleCyclesChangeNothing : Obligations.IdleCyclesChangeNothing :=
  fun _ => ⟨step_of_port_nil, fun _ _ => step_of_not_valid⟩

/-- With an idle port and no response nothing is left for the invariant to ask. -/
theorem State.resetOf_wf (ht : HeaderType) : (State.resetOf ht).wf := by
  simp [State.wf]

/-- Settles O10: the reset state has no inputs to come and no response. -/
theorem resetStateMeetsTheInvariant : Obligations.ResetStateMeetsTheInvariant :=
  ⟨fun ht => ⟨State.resetOf_wf ht, State.resetOf_ht ht, State.resetOf_W ht, rfl⟩, State.resetOf_wf _⟩

/-- What every cycle leaves: the header type, the port without its first entry, and a response, if any, of the form of
R66. -/
theorem step_frame {s t : State} (h : step s = .next t) :
    t.ht = s.ht ∧ t.port = s.port.drop 1 ∧ ∀ r ∈ t.rsp, r.wf s.ht = true := by
  rcases step_next h with ⟨hp, rfl⟩ | ⟨c, rest, hp, ⟨-, rfl⟩ | ⟨-, -, rfl⟩ | ⟨-, -, i, -, hx⟩⟩
  · simp [hp]
  · simp [hp]
  · simp [hp]
  · obtain ⟨hht, hport, r, hrsp, hr⟩ := exec_frame hx
    refine ⟨hht, by simp [hport, hp], fun r' hr' => ?_⟩
    obtain rfl : r = r' := Option.some.inj (hrsp.symm.trans hr')
    exact hr

/-- A cycle keeps the invariant (R20, R66). -/
theorem step_keeps_wf {s t : State} (hwf : s.wf) (h : step s = .next t) : t.wf := by
  obtain ⟨hht, hport, hrsp⟩ := step_frame h
  obtain ⟨hin, -⟩ := hwf
  rw [State.wf, hht, hport]
  exact ⟨fun c hc => hin c (List.mem_of_mem_drop hc), hrsp⟩

/-- Settles O11: the cycles to come were there before, and the response is that of the cycle. -/
theorem everyStepKeepsTheInvariant : Obligations.EveryStepKeepsTheInvariant := by
  intro s t hwf h
  obtain ⟨hht, -⟩ := step_frame h
  exact ⟨step_keeps_wf hwf h, hht, by rw [t.W_length, hht]⟩

/-- A command depends on the container alone: from the same words it leaves the same words and answers the same,
whatever the port and the earlier response (R20, R24, R29). -/
theorem exec_of_container_eq {i : Instr} {s t s' : State} (hx : exec i s = .next t) (hc : s'.container = s.container) :
    exec i s' = .next { s' with container := t.container, rsp := t.rsp } := by
  have hht : s'.ht = s.ht := congrArg Container.ht hc
  have hW : s'.W = s.W := congrArg Container.words hc
  rcases exec_cases i with rfl | ⟨b, rfl⟩ | rfl | ⟨ht, fid, row, hg⟩ | ⟨ht, fid, row, v, hs⟩
  · obtain rfl := clearAll_next hx
    change clearAll s' = _
    simp [clearAll, State.respond, State.setContainer, hht]
  · obtain ⟨hlen, rfl⟩ := loadBuffer_next hx
    change loadBuffer b s' = _
    simp [loadBuffer, State.respond, State.setWords, State.setContainer, hht, hlen]
  · obtain rfl := storeBuffer_next hx
    change storeBuffer s' = _
    simp [storeBuffer, State.respond, hW, hc]
  · obtain ⟨rfl, -, word, hw, rfl⟩ := getField_next (hg.exec_eq s ▸ hx)
    rw [← hht] at hg
    rw [← hW] at hw
    rw [hg.exec_next hw]
    simp [State.respond, hc]
  · obtain ⟨rfl, hl, word, hw, hcases⟩ := setField_next (hs.exec_eq s ▸ hx)
    obtain ⟨-, hwidth, -, -⟩ := legalPos_iff.1 hl
    rw [← hht] at hs
    rw [← hW] at hw
    rcases hcases with ⟨he, rfl⟩ | ⟨he, rfl⟩
    · rw [hs.exec_reject hw ((exceeds_iff hwidth v).1 he)]
      simp [raiseOutOfRange, State.respond, hc]
    · rw [hs.exec_accept hw (fits_of_not_exceeds hwidth he)]
      simp [State.respond, State.writeWord, State.setContainer, hc]

/-- Settles O12: the frame of a cycle, and commands as functions of the container. -/
theorem headerTypeStaysAndCommandsSeeTheWordsOnly : Obligations.HeaderTypeStaysAndCommandsSeeTheWordsOnly := by
  refine ⟨fun s t h => ?_, fun i s t s' => exec_of_container_eq⟩
  obtain ⟨hht, hport, -⟩ := step_frame h
  exact ⟨hht, fun hp => by rw [hport, hp, List.drop_nil],
    fun c rest hp => by rw [hport, hp, List.drop_one, List.tail_cons]⟩

/-- Settles O13: a well-formed command answers a next state, and the frame of that state is that of every command. -/
theorem everyWellFormedCommandCompletes : Obligations.EveryWellFormedCommandCompletes := by
  intro s i hwf
  obtain ⟨t, hx⟩ := exec_completes hwf
  obtain ⟨hht, hport, r, hrsp, hr⟩ := exec_frame hx
  exact ⟨t, r, hx, hrsp, hr, hht, hport⟩

/-- A legal cycle is a reset, or idle, or presents a request that decodes (R67). -/
theorem PortCycle.legal_cases {ht : HeaderType} {c : PortCycle} (h : c.legal ht = true) :
    c.rst = true ∨ (c.rst = false ∧ c.valid = false) ∨
      (c.rst = false ∧ c.valid = true ∧ ∃ i, decode ht c.req = .ok i) := by
  unfold PortCycle.legal at h
  cases hr : c.rst
  · cases hv : c.valid
    · exact .inr (.inl ⟨rfl, rfl⟩)
    · cases hd : decode ht c.req with
      | ok i => exact .inr (.inr ⟨rfl, rfl, i, rfl⟩)
      | error e => simp [hr, hv, hd, Except.toBool] at h
  · exact .inl rfl

/-- On a stream of legal cycles every cycle has a next state (R67, R100). -/
theorem step_completes {s : State} (h : s.legalStream) : ∃ t, step s = .next t := by
  cases hp : s.port with
  | nil => exact ⟨_, step_of_port_nil hp⟩
  | cons c rest =>
    have hc : c.legal s.ht = true := h c (by rw [hp]; exact List.mem_cons_self)
    rcases PortCycle.legal_cases hc with hr | ⟨hr, hv⟩ | ⟨hr, hv, i, hd⟩
    · exact ⟨_, step_of_rst hp hr⟩
    · exact ⟨_, step_of_not_valid hp hr hv⟩
    · obtain ⟨hwf, -⟩ := decode_inv hd
      obtain ⟨t, hx⟩ := exec_completes (s := s.setPort rest) hwf
      exact ⟨t, (step_of_decode_ok hp hr hv hd).trans hx⟩

/-- What is left of a stream of legal cycles is one. -/
theorem step_keeps_legalStream {s t : State} (hl : s.legalStream) (h : step s = .next t) : t.legalStream := by
  obtain ⟨hht, hport, -⟩ := step_frame h
  intro c hc
  rw [hport] at hc
  rw [hht]
  exact hl c (List.mem_of_mem_drop hc)

/-- Settles O14: by induction on the number of cycles; a cycle has a next state, which meets the invariant and has a
legal stream again. -/
theorem legalStreamsNeverStop : Obligations.LegalStreamsNeverStop := by
  intro n
  induction n with
  | zero => exact fun s hwf _ => ⟨[], s, rfl, rfl, hwf, rfl⟩
  | succ n ih =>
    intro s hwf hl
    obtain ⟨t, hstep⟩ := step_completes hl
    obtain ⟨-, hport, -⟩ := step_frame hstep
    obtain ⟨p, u, hrun, hlen, huwf, huport⟩ := ih t (step_keeps_wf hwf hstep) (step_keeps_legalStream hl hstep)
    refine ⟨_, u, trace_succ_of_next hstep hrun, congrArg (· + 1) hlen, huwf, ?_⟩
    rw [huport, hport, List.drop_drop, Nat.add_comm 1 n]

end Sys2Proof.Machine
end

section
/-!
Writing a field of a state (spec/41_container_ops.md R105; spec/40_bitfield_unit.md R84 to R88): `State.deposit` is what
an accepted SET does to the words. What it does to each word and each stream bit is said here once, and the laws of the
bit-field unit are carried over to states.
-/

namespace Sys2Proof.Machine

/-- The state in which the field with descriptor `d` is written with `v` (R84, R105). -/
def State.deposit (s : State) (d : FieldDesc) (v : Word) : State :=
  s.writeWord d.widx (depositBits (s.W.getD d.widx 0) d.off d.w v)

@[simp] theorem State.deposit_ht (s : State) (d : FieldDesc) (v : Word) : (s.deposit d v).ht = s.ht :=
  s.writeWord_ht ..

@[simp] theorem State.deposit_port (s : State) (d : FieldDesc) (v : Word) : (s.deposit d v).port = s.port := rfl

@[simp] theorem State.deposit_rsp (s : State) (d : FieldDesc) (v : Word) : (s.deposit d v).rsp = s.rsp := rfl

@[simp] theorem State.deposit_respond (s : State) (r : Response) (d : FieldDesc) (v : Word) :
    (s.respond r).deposit d v = (s.deposit d v).respond r := rfl

/-- A deposit changes the field's word by the formula of the bit-field unit, and no other word (R21, R84). -/
theorem State.deposit_W (s : State) (d : FieldDesc) (v : Word) :
    (s.deposit d v).W = s.W.modify d.widx (depositBits · d.off d.w v) := by
  rw [State.deposit, State.writeWord_W, List.getD_eq_getElem?_getD, List.modify_eq_set]
  rfl

/-- A deposit into a word that is known. -/
theorem State.deposit_of_word {s : State} {d : FieldDesc} {word : Word} (h : s.W[d.widx]? = some word) (v : Word) :
    s.deposit d v = s.writeWord d.widx (depositBits word d.off d.w v) := by
  rw [State.deposit, List.getD_eq_getElem?_getD, h, Option.getD_some]

/-- A descriptor is legal when its position is, and its word exists (R27). -/
theorem FieldDesc.legal_iff {n : Nat} {d : FieldDesc} :
    d.legal n = true ↔ legalPos d.off d.w = true ∧ d.widx < n := by
  simp [FieldDesc.legal]

/-- States of one header type with the same words, port and response are the same. -/
theorem State.ext_W {s t : State} (hht : s.ht = t.ht) (hW : s.W = t.W) (hp : s.port = t.port) (hr : s.rsp = t.rsp) :
    s = t := by
  obtain ⟨c, p, r⟩ := s
  obtain ⟨c', p', r'⟩ := t
  cases hp
  cases hr
  obtain rfl : c = c' := Container.ext_words hht hW
  rfl

/-- Two deposits to descriptors that share no bit give the same in either order (R88 (c)). -/
theorem State.deposit_comm {s : State} {a b : FieldDesc} {x y : Word} (ha : legalPos a.off a.w = true)
    (hb : legalPos b.off b.w = true) (hd : a.disjoint b = true) (hx : x.toNat < 2 ^ a.w) (hy : y.toNat < 2 ^ b.w) :
    (s.deposit a x).deposit b y = (s.deposit b y).deposit a x := by
  refine State.ext_W (by simp) (List.ext_getElem? fun k => ?_) rfl rfl
  simp only [State.deposit_W, List.getElem?_modify]
  cases s.W[k]? with
  | none => rfl
  | some word =>
    by_cases hak : a.widx = k
    · by_cases hbk : b.widx = k
      · have hoff := (FieldDesc.disjoint_iff.1 hd).resolve_left (not_not_intro (hak.trans hbk.symm))
        simp [hak, hbk, depositBits_comm ha hb hoff word hx hy]
      · simp [hbk]
    · simp [hak]

/-- After a deposit of a value that fits, the field holds it (R86). -/
theorem State.field_deposit_self {s : State} {d : FieldDesc} {v : Word} (hd : d.legal s.ht.numWords = true)
    (hv : v.toNat < 2 ^ d.w) : (s.deposit d v).field d = v := by
  obtain ⟨hpos, hidx⟩ := FieldDesc.legal_iff.1 hd
  rw [State.deposit, State.field_writeWord_self (by rwa [s.W_length]), extractBits_depositBits hpos _ hv]

/-- A deposit of a value that fits changes no stream bit outside its field (R42, R87). -/
theorem State.streamBit_deposit_of_outside {s : State} {d : FieldDesc} {v : Word} {k : Nat}
    (hd : legalPos d.off d.w = true) (hv : v.toNat < 2 ^ d.w)
    (hk : k < 32 * d.widx + d.off ∨ 32 * d.widx + d.off + d.w ≤ k) :
    (s.deposit d v).W.streamBit k = s.W.streamBit k := by
  obtain ⟨-, -, -, hend⟩ := legalPos_iff.1 hd
  rw [Memory.streamBit, Memory.streamBit, State.deposit_W, List.getElem?_modify]
  split
  next hidx =>
    have hout : ¬ InField d.off d.w (31 - k % 32) := by
      rw [inField_wire_iff hd (by omega)]
      omega
    have hbit : ∀ word, wireBit (depositBits word d.off d.w v) (k % 32) = wireBit word (k % 32) := fun word =>
      depositBits_getLsbD_of_not_inField hd word hv (by omega) hout
    simp [Function.comp_def, hbit]
  next => simp

/-- An accepted SET deposits its value (R105). -/
theorem IsSet.exec_deposit {i : Instr} {fid : Nat} {row : FieldRow} {v : Word} {s : State} (h : IsSet i s.ht fid row v)
    (hv : v.toNat < 2 ^ row.desc.w) : exec i s = .next ((s.deposit row.desc v).respond okResponse) := by
  obtain ⟨word, hw⟩ := row_word h.row_eq
  rw [h.exec_accept hw hv, State.deposit_of_word hw]

/-- A rejected SET changes the response only (R206). -/
theorem IsSet.exec_raise {i : Instr} {fid : Nat} {row : FieldRow} {v : Word} {s : State} (h : IsSet i s.ht fid row v)
    (hv : 2 ^ row.desc.w ≤ v.toNat) : exec i s = .next (raiseOutOfRange s) := by
  obtain ⟨word, hw⟩ := row_word h.row_eq
  exact h.exec_reject hw hv

/-- The descriptor of a row is legal in every instance of its header type (R27). -/
theorem row_desc_legal {ht : HeaderType} {fid : Nat} {row : FieldRow} (h : (fields ht)[fid]? = some row) :
    row.desc.legal ht.numWords = true :=
  FieldDesc.legal_iff.2 (row_legal h)

end Sys2Proof.Machine
end

section
/-!
The order of two SETs (spec/40_bitfield_unit.md R88 (c); spec/41_container_ops.md R106). A SET makes its deposit if the
value fits and does nothing otherwise, and deposits to disjoint fields commute.
-/

namespace Sys2Proof.Machine

/-- What a SET does to the words: the deposit if the value fits, nothing if it does not (R105, R206). -/
def State.tryDeposit (s : State) (d : FieldDesc) (v : Word) : State :=
  if v.toNat < 2 ^ d.w then s.deposit d v else s

@[simp] theorem State.tryDeposit_ht (s : State) (d : FieldDesc) (v : Word) : (s.tryDeposit d v).ht = s.ht := by
  unfold State.tryDeposit
  split <;> simp

/-- Every SET makes its deposit if it can, and answers (R105). -/
theorem IsSet.exec_tryDeposit {i : Instr} {fid : Nat} {row : FieldRow} {v : Word} {s : State}
    (h : IsSet i s.ht fid row v) : ∃ r, exec i s = .next ((s.tryDeposit row.desc v).respond r) := by
  unfold State.tryDeposit
  split
  next hv => exact ⟨_, h.exec_deposit hv⟩
  next hv => exact ⟨_, h.exec_raise (Nat.le_of_not_lt hv)⟩

/-- Attempts on descriptors that share no bit give the same in either order. -/
theorem State.tryDeposit_comm {s : State} {a b : FieldDesc} (x y : Word) (ha : legalPos a.off a.w = true)
    (hb : legalPos b.off b.w = true) (hd : a.disjoint b = true) :
    (s.tryDeposit a x).tryDeposit b y = (s.tryDeposit b y).tryDeposit a x := by
  unfold State.tryDeposit
  by_cases hx : x.toNat < 2 ^ a.w
  · by_cases hy : y.toNat < 2 ^ b.w
    · rw [if_pos hx, if_pos hy, if_pos hy, if_pos hx, State.deposit_comm ha hb hd hx hy]
    · rw [if_neg hy, if_neg hy]
  · rw [if_neg hx, if_neg hx]

/-- A list of commands whose first one answers runs on from there. -/
theorem execAll_cons_of_next {i : Instr} {s t : State} (h : exec i s = .next t) (is : List Instr) :
    execAll (i :: is) s = execAll is t := by
  rw [execAll, h]

/-- Two SETs in a row are two attempts in a row. -/
theorem IsSet.execAll_pair {i j : Instr} {f g : Nat} {ri rj : FieldRow} {x y : Word} {s : State}
    (hi : IsSet i s.ht f ri x) (hj : IsSet j s.ht g rj y) :
    ∃ r, execAll [i, j] s = some (((s.tryDeposit ri.desc x).tryDeposit rj.desc y).respond r) := by
  obtain ⟨ra, hxi⟩ := hi.exec_tryDeposit
  rw [← s.tryDeposit_ht ri.desc x] at hj
  obtain ⟨rb, hxj⟩ := hj.exec_tryDeposit
  refine ⟨rb, ?_⟩
  rw [execAll_cons_of_next hxi, execAll_cons_of_next ((exec_respond ..).trans hxj), execAll]

/-- A well-formed command with the operation code of SET is SET of the row it names (R62, R64). -/
theorem exists_isSet_of_wf {i : Instr} {ht : HeaderType} {row : FieldRow} (hwf : i.wf ht = true) (hop : i.op = 0b101#3)
    (hrow : fieldRow i = some row) : ∃ fid v, IsSet i ht fid row v := by
  obtain ⟨ht', fid, row', v, hs⟩ := op_eq_set_iff.1 hop
  obtain rfl := header_eq_of_wf hs.header hwf
  obtain rfl : row' = row := Option.some.inj (hs.fieldRow_eq.symm.trans hrow)
  exact ⟨fid, v, hs⟩

/-- Settles O34: the two SETs are two attempts, which commute on disjoint fields. -/
theorem setOrderOfDisjointFieldsDoesNotMatter : Obligations.SetOrderOfDisjointFieldsDoesNotMatter := by
  intro s i j ri rj hwi hwj hopi hopj hri hrj hd
  obtain ⟨f, x, hi⟩ := exists_isSet_of_wf hwi hopi hri
  obtain ⟨g, y, hj⟩ := exists_isSet_of_wf hwj hopj hrj
  obtain ⟨r, hij⟩ := hi.execAll_pair hj
  obtain ⟨r', hji⟩ := hj.execAll_pair hi
  refine ⟨_, _, hij, hji, ?_⟩
  rw [State.respond_W, State.respond_W, State.tryDeposit_comm x y (row_legal hi.row_eq).1 (row_legal hj.row_eq).1 hd]

end Sys2Proof.Machine
end

section
/-!
No residue (spec/60_exceptions.md R207, R208, R230): a failed command changes the response only, which no later command
sees.
-/

namespace Sys2Proof.Machine

/-- A list of commands behind one that has been performed. -/
theorem execAll_append_of_eq_some {xs : List Instr} {s t : State} (h : execAll xs s = some t) (ys : List Instr) :
    execAll (xs ++ ys) s = execAll ys t := by
  refine Option.ext fun u => ?_
  simp [execAll_append_eq_some, h]

/-- A list with a command in it does the same whatever response was driven before (R24, R29). -/
theorem execAll_respond {cmds : List Instr} (h : cmds ≠ []) (s : State) (r : Response) :
    execAll cmds (s.respond r) = execAll cmds s := by
  cases cmds with
  | nil => exact absurd rfl h
  | cons k ks => rw [execAll, execAll, exec_respond]

/-- The words a list of commands ends in do not depend on the response driven before. -/
theorem execAll_respond_W (cmds : List Instr) (s : State) (r : Response) :
    (execAll cmds (s.respond r)).map State.W = (execAll cmds s).map State.W := by
  cases cmds with
  | nil => rfl
  | cons k ks => rw [execAll_respond (List.cons_ne_nil k ks)]

/-- Settles O39: with the failed command the rest of the list starts from the same state but for the response. -/
theorem failedSetLeavesNoResidue : Obligations.FailedSetLeavesNoResidue := by
  intro before later i s s1 t hbefore hx herr
  rw [execAll_append_of_eq_some hbefore, execAll_append_of_eq_some hbefore, execAll_cons_of_next hx]
  refine ⟨?_, fun hne => ?_, exec_repeat hx⟩
  · obtain ⟨-, rfl⟩ := exec_reportsError hx herr
    exact execAll_respond_W ..
  · obtain ⟨-, rfl⟩ := exec_reportsError hx herr
    exact execAll_respond hne ..

end Sys2Proof.Machine
end

section
/-!
GET and SET over the rows of the tables (spec/41_container_ops.md R104, R105; spec/20_memory.md R42, R46): what they
answer, which stream bits a SET writes, and what both leave alone.
-/

namespace Sys2Proof.Machine

/-- Settles O28: GET answers the extracted bits, which fit in the field's width and are the whole word at width 32. -/
theorem getReadsTheBitsOfItsRow : Obligations.GetReadsTheBitsOfItsRow := by
  intro ht fid row v b hrow
  obtain ⟨i, hi, hget⟩ := decode_getCmd v b hrow
  obtain ⟨hpos, -⟩ := row_legal hrow
  obtain ⟨-, hwidth, -, -⟩ := legalPos_iff.1 hpos
  refine ⟨i, hi, ?_⟩
  rintro s word rfl hw
  refine ⟨_, hget.exec_next hw, extract_of_legal hpos word, ?_, extractBits_fits hwidth word, fun hfull => ?_⟩
  · rw [extractBits, shamt, mask]
  · rw [hfull] at hpos ⊢
    rw [legalPos_wholeWord_iff.1 hpos, extractBits_wholeWord]

/-- Settles O29: the deposit gives the field its value, so its stream bits are the value's, and keeps the others. -/
theorem setWritesTheBitsOfItsRow : Obligations.SetWritesTheBitsOfItsRow := by
  intro ht fid row v b hrow hv
  obtain ⟨i, hi, hset⟩ := decode_setCmd v b hrow
  refine ⟨i, hi, ?_⟩
  rintro s rfl
  have hlegal := row_desc_legal hrow
  refine ⟨(s.deposit row.desc v).container, hset.exec_deposit hv, s.deposit_ht .., fun j hj => ?_, fun k hk => ?_⟩
  · have hbit := State.streamBit_field (s := s.deposit row.desc v) (by rwa [State.deposit_ht]) hj
    rwa [State.field_deposit_self hlegal hv] at hbit
  · exact State.streamBit_deposit_of_outside (row_legal hrow).1 hv hk

/-- A SET changes no word but its field's (R21, R46). -/
theorem IsSet.keeps_other_words {i : Instr} {ht : HeaderType} {fid k : Nat} {row : FieldRow} {v : Word} {s t : State}
    (h : IsSet i ht fid row v) (hx : exec i s = .next t) (hk : k ≠ row.desc.widx) : t.W[k]? = s.W[k]? := by
  obtain ⟨-, -, word, -, ⟨-, rfl⟩ | ⟨-, rfl⟩⟩ := setField_next (h.exec_eq s ▸ hx)
  · rw [raiseOutOfRange_W]
  · rw [State.respond_W, State.writeWord_W, List.getElem?_set_ne hk.symm]

/-- Settles O30: a byte outside the field's word lies in another word. -/
theorem setStoresOnlyToItsOwnWordsBytes : Obligations.SetStoresOnlyToItsOwnWordsBytes := by
  intro i row s t hop hrow hx
  obtain ⟨ht, fid, row', v, hs⟩ := op_eq_set_iff.1 hop
  obtain rfl : row' = row := Option.some.inj (hs.fieldRow_eq.symm.trans hrow)
  obtain ⟨hht, hport, -⟩ := exec_frame hx
  refine ⟨fun a ha => ?_, fun k => hs.keeps_other_words hx, hht, hport, by rw [t.W_length, s.W_length, hht]⟩
  rw [Memory.byteAt, Memory.byteAt, hs.keeps_other_words hx (by omega)]

/-- Settles O31: a read changes the response only, and only a SET can report an error. -/
theorem readsStoreNothing : Obligations.ReadsStoreNothing := by
  intro i s t hop hx
  have hread : IsRead i := hop
  have hne : i.op ≠ 0b101#3 := by rcases hop with h | h <;> rw [h] <;> decide
  obtain ⟨r, hrsp, hr⟩ := exec_err_false_of_op_ne_set hne hx
  obtain ⟨r', rfl⟩ := hread.next_eq_respond hx
  exact ⟨fun _ => rfl, rfl, rfl, rfl, r, hrsp, hr⟩

end Sys2Proof.Machine
end

section
/-!
A field command by its descriptor (spec/30_encoding.md R62, R64; spec/41_container_ops.md R104, R105): what an
instruction's operation code and row in the table say it does.
-/

namespace Sys2Proof.Machine

/-- The tables give `i` the operation code `op` and the field with descriptor `d` of header type `ht` (R62, R64). -/
structure OnField (i : Instr) (op : BitVec 3) (ht : HeaderType) (d : FieldDesc) : Prop where
  header : i.header = some ht
  op_eq : i.op = op
  desc_eq : (fieldRow i).map FieldRow.desc = some d

section
variable {i : Instr} {ht : HeaderType} {d : FieldDesc} {s : State}

/-- The row behind a descriptor that the tables give an instruction. -/
theorem OnField.exists_row {op : BitVec 3} (h : OnField i op ht d) :
    ∃ row, (fields ht)[i.fid.toNat]? = some row ∧ row.desc = d := by
  obtain ⟨hh, -, hd⟩ := h
  obtain ⟨row, hrow, hdesc⟩ := Option.map_eq_some_iff.1 hd
  rw [fieldRow, hh, Option.bind_some] at hrow
  exact ⟨row, hrow, hdesc⟩

/-- With the operation code of GET it is GET of that row (R62). -/
theorem OnField.isGet (h : OnField i 0b100#3 ht d) : ∃ fid row, IsGet i ht fid row ∧ row.desc = d := by
  obtain ⟨row, hrow, hdesc⟩ := h.exists_row
  obtain ⟨hh, hop, -⟩ := h
  rcases IsRead.stb_or_isGet (.inl hop) with rfl | ⟨ht', fid, row', hg⟩
  · cases hop
  · obtain rfl : ht' = ht := Option.some.inj (hg.header.symm.trans hh)
    obtain rfl := hg.fid_eq
    obtain rfl : row' = row := Option.some.inj (hg.row_eq.symm.trans hrow)
    exact ⟨_, _, hg, hdesc⟩

/-- With the operation code of SET it is SET of that row to its value operand (R62, R63). -/
theorem OnField.isSet (h : OnField i 0b101#3 ht d) :
    ∃ fid row, IsSet i ht fid row i.valueOperand ∧ row.desc = d := by
  obtain ⟨row, hrow, hdesc⟩ := h.exists_row
  obtain ⟨hh, hop, -⟩ := h
  obtain ⟨ht', fid, row', v, hs⟩ := op_eq_set_iff.1 hop
  obtain rfl : ht' = ht := Option.some.inj (hs.header.symm.trans hh)
  obtain rfl := hs.fid_eq
  obtain rfl := hs.value
  obtain rfl : row' = row := Option.some.inj (hs.row_eq.symm.trans hrow)
  exact ⟨_, _, hs, hdesc⟩

/-- GET answers what the field holds (R104). -/
theorem exec_get_field (hs : s.ht = ht) (hi : OnField i 0b100#3 ht d) :
    exec i s = .next (s.respond (valueResponse (s.field d))) := by
  subst hs
  obtain ⟨fid, row, hg, rfl⟩ := hi.isGet
  exact hg.exec_field

/-- SET to a value that fits writes the field (R105). -/
theorem exec_set_fits (hs : s.ht = ht) (hi : OnField i 0b101#3 ht d) (hv : i.valueOperand.toNat < 2 ^ d.w) :
    exec i s = .next ((s.deposit d i.valueOperand).respond okResponse) := by
  subst hs
  obtain ⟨fid, row, hset, rfl⟩ := hi.isSet
  exact hset.exec_deposit hv

/-- SET to a value that does not fit reports `OutOfRange` (R105, R206). -/
theorem exec_set_not_fits (hs : s.ht = ht) (hi : OnField i 0b101#3 ht d) (hv : 2 ^ d.w ≤ i.valueOperand.toNat) :
    exec i s = .next (raiseOutOfRange s) := by
  subst hs
  obtain ⟨fid, row, hset, rfl⟩ := hi.isSet
  exact hset.exec_raise hv

end

end Sys2Proof.Machine
end

section
/-!
The fields one by one (spec/42_ipv4_fields.md R121 to R142; spec/43_udp_fields.md R151 to R154; spec/44_tcp_fields.md
R161 to R177). The rules print four forms: bits of a word, a whole word, and for SET also bits at the least significant
end, which need no shift. In each lemma the default arguments find the command's descriptor in the tables and compute
the rule's numbers from it.
-/

namespace Sys2Proof.Machine

/-- A deposit at the least significant end needs no shift (R84). -/
theorem depositBits_low {off w : Nat} (h : shamt off w = 0) (word v : Word) :
    depositBits word off w v = (word &&& ~~~(shiftedMask off w)) ||| v := by
  rw [depositBits, h, BitVec.shiftLeft_zero]

section
variable {i : Instr} {d : FieldDesc} {s : State} {x : Word} {c : Container} {k m : Nat}

/-- GET of a field by its rule: the extracted bits. -/
theorem exec_get_part (hi : OnField i 0b100#3 s.ht d := by exact ⟨rfl, rfl, rfl⟩) (hx : s.field d = x := by rfl) :
    exec i s = .next { s with rsp := some ⟨false, some x, none⟩ } := by
  subst hx
  exact exec_get_field rfl hi

/-- GET of a whole word by its rule. -/
theorem exec_get_word (hi : OnField i 0b100#3 s.ht ⟨k, 0, 32⟩ := by exact ⟨rfl, rfl, rfl⟩)
    (hx : s.W.getD k 0 = x := by rfl) : exec i s = .next { s with rsp := some ⟨false, some x, none⟩ } :=
  exec_get_part hi ((extractBits_wholeWord _).trans hx)

/-- SET of a field by its rule: the field's bits cleared, the shifted value put in. -/
theorem exec_set_part (hv : i.valueOperand.toNat ≤ m) (hi : OnField i 0b101#3 s.ht d := by exact ⟨rfl, rfl, rfl⟩)
    (hm : 2 ^ d.w - 1 = m := by rfl) (hc : (s.deposit d i.valueOperand).container = c := by rfl) :
    exec i s = .next { s with container := c, rsp := some ⟨false, none, none⟩ } := by
  subst hm hc
  exact exec_set_fits rfl hi (lt_two_pow_of_le_pred hv)

/-- SET of a field at the least significant end by its rule. -/
theorem exec_set_low (hv : i.valueOperand.toNat ≤ m) (hi : OnField i 0b101#3 s.ht d := by exact ⟨rfl, rfl, rfl⟩)
    (hm : 2 ^ d.w - 1 = m := by rfl) (hs : shamt d.off d.w = 0 := by rfl)
    (hc : s.container.setWord d.widx ((s.W.getD d.widx 0 &&& ~~~(shiftedMask d.off d.w)) ||| i.valueOperand) = c :=
      by rfl) : exec i s = .next { s with container := c, rsp := some ⟨false, none, none⟩ } :=
  exec_set_part hv hi hm ((congrArg (s.container.setWord d.widx) (depositBits_low hs _ _)).trans hc)

/-- SET of a whole word by its rule. -/
theorem exec_set_word (hi : OnField i 0b101#3 s.ht ⟨k, 0, 32⟩ := by exact ⟨rfl, rfl, rfl⟩)
    (hc : s.container.setWord k i.valueOperand = c := by rfl) :
    exec i s = .next { s with container := c, rsp := some ⟨false, none, none⟩ } :=
  exec_set_part (Nat.le_pred_of_lt i.valueOperand.isLt) hi rfl
    ((congrArg (s.container.setWord k) (depositBits_wholeWord _ _)).trans hc)

/-- SET of a field by its rule, with a value above the largest of its width. -/
theorem exec_set_tooLarge (hv : m < i.valueOperand.toNat)
    (hi : OnField i 0b101#3 s.ht d := by exact ⟨rfl, rfl, rfl⟩) (hm : 2 ^ d.w - 1 = m := by rfl) :
    exec i s = .next { s with rsp := some ⟨true, none, none⟩ } := by
  subst hm
  exact exec_set_not_fits rfl hi (pred_two_pow_lt_iff.1 hv)

end

/-- Settles O19: the descriptor of each field gives the shift and the mask of its rule. -/
theorem getIpv4FieldsAnswerTheirBits : Obligations.GetIpv4FieldsAnswerTheirBits := by
  rintro ⟨_, p, r⟩ w0 w1 w2 w3 w4 w5 rfl
  exact ⟨exec_get_part, exec_get_part, exec_get_part, exec_get_part, exec_get_part, exec_get_part, exec_get_part,
    exec_get_part, exec_get_part, exec_get_part, exec_get_part, exec_get_part, exec_get_part, exec_get_part,
    exec_get_part, exec_get_part, exec_get_part, exec_get_part, exec_get_word, exec_get_word, exec_get_part,
    exec_get_part⟩

/-- Settles O20: the complement of the field's bits in place is the keep-mask of its rule. -/
theorem setIpv4FieldsWriteTheirBits : Obligations.SetIpv4FieldsWriteTheirBits := by
  rintro ⟨_, p, r⟩ w0 w1 w2 w3 w4 w5 v rfl
  exact ⟨(exec_set_part ·), (exec_set_part ·), (exec_set_part ·), (exec_set_part ·), (exec_set_part ·),
    (exec_set_part ·), (exec_set_part ·), (exec_set_part ·), (exec_set_low ·), (exec_set_part ·), (exec_set_part ·),
    (exec_set_part ·), (exec_set_part ·), (exec_set_part ·), (exec_set_low ·), (exec_set_part ·), (exec_set_part ·),
    (exec_set_low ·), exec_set_word, exec_set_word, (exec_set_part ·), (exec_set_low ·)⟩

/-- Settles O21: the bound of each clause is the largest value of the field's width. -/
theorem setIpv4FieldsRejectTooLargeValues : Obligations.SetIpv4FieldsRejectTooLargeValues := by
  rintro ⟨_, p, r⟩ w0 w1 w2 w3 w4 w5 v rfl
  and_intros <;> exact (exec_set_tooLarge ·)

/-- Settles O22: the descriptor of each field gives the shift and the mask of its rule. -/
theorem getUdpFieldsAnswerTheirBits : Obligations.GetUdpFieldsAnswerTheirBits := by
  rintro ⟨_, p, r⟩ w0 w1 rfl
  exact ⟨exec_get_part, exec_get_part, exec_get_part, exec_get_part⟩

/-- Settles O23: the complement of the field's bits in place is the keep-mask of its rule. -/
theorem setUdpFieldsWriteTheirBits : Obligations.SetUdpFieldsWriteTheirBits := by
  rintro ⟨_, p, r⟩ w0 w1 v rfl
  exact ⟨(exec_set_part ·), (exec_set_low ·), (exec_set_part ·), (exec_set_low ·)⟩

/-- Settles O24: the bound of each clause is the largest value of the field's width. -/
theorem setUdpFieldsRejectTooLargeValues : Obligations.SetUdpFieldsRejectTooLargeValues := by
  rintro ⟨_, p, r⟩ w0 w1 v rfl
  and_intros <;> exact (exec_set_tooLarge ·)

/-- Settles O25: the descriptor of each field gives the shift and the mask of its rule. -/
theorem getTcpFieldsAnswerTheirBits : Obligations.GetTcpFieldsAnswerTheirBits := by
  rintro ⟨_, p, r⟩ w0 w1 w2 w3 w4 rfl
  exact ⟨exec_get_part, exec_get_part, exec_get_word, exec_get_word, exec_get_part, exec_get_part, exec_get_part,
    exec_get_part, exec_get_part, exec_get_part, exec_get_part, exec_get_part, exec_get_part, exec_get_part,
    exec_get_part, exec_get_part, exec_get_part⟩

/-- Settles O26: the complement of the field's bits in place is the keep-mask of its rule. -/
theorem setTcpFieldsWriteTheirBits : Obligations.SetTcpFieldsWriteTheirBits := by
  rintro ⟨_, p, r⟩ w0 w1 w2 w3 w4 v rfl
  exact ⟨(exec_set_part ·), (exec_set_low ·), exec_set_word, exec_set_word, (exec_set_part ·), (exec_set_part ·),
    (exec_set_part ·), (exec_set_part ·), (exec_set_part ·), (exec_set_part ·), (exec_set_part ·), (exec_set_part ·),
    (exec_set_part ·), (exec_set_part ·), (exec_set_low ·), (exec_set_part ·), (exec_set_low ·)⟩

/-- Settles O27: the bound of each clause is the largest value of the field's width. -/
theorem setTcpFieldsRejectTooLargeValues : Obligations.SetTcpFieldsRejectTooLargeValues := by
  rintro ⟨_, p, r⟩ w0 w1 w2 w3 w4 v rfl
  and_intros <;> exact (exec_set_tooLarge ·)

end Sys2Proof.Machine
end

section
/-!
Adjacent fields and a field inside a field (spec/40_bitfield_unit.md R88; spec/41_container_ops.md R112), on words and
then on states: a composite reads as its members side by side, is written by writing them one after another, and a
write of one member is a write inside the composite's value.
-/

namespace Sys2Proof.Machine

/-- An extracted value as a number (R83). -/
theorem extractBits_toNat {w : Nat} (hw : w ≤ 32) (word : Word) (off : Nat) :
    (extractBits word off w).toNat = word.toNat / 2 ^ shamt off w % 2 ^ w := by
  rw [extractBits, BitVec.toNat_and, BitVec.toNat_ushiftRight, mask_toNat hw, Nat.and_two_pow_sub_one_eq_mod,
    Nat.shiftRight_eq_div_pow]

/-- A masked value fits (R80). -/
theorem and_mask_fits {w : Nat} (hw : w ≤ 32) (x : Word) : (x &&& mask w).toNat < 2 ^ w :=
  Nat.lt_of_le_of_lt (by rw [BitVec.toNat_and]; exact Nat.and_le_right) (mask_fits hw)

/-- A value that fits is not changed by the mask (R80). -/
theorem and_mask_of_fits {w : Nat} (hw : w ≤ 32) {x : Word} (hx : x.toNat < 2 ^ w) : x &&& mask w = x := by
  apply BitVec.eq_of_toNat_eq
  rw [BitVec.toNat_and, mask_toNat hw, Nat.and_two_pow_sub_one_eq_mod, Nat.mod_eq_of_lt hx]

/-- What is left of a value after its low bits are shifted out fits in the rest of its width. -/
theorem ushiftRight_fits {p n : Nat} {x : Word} (hx : x.toNat < 2 ^ (p + n)) : (x >>> n).toNat < 2 ^ p := by
  rw [BitVec.toNat_ushiftRight, Nat.shiftRight_eq_div_pow]
  exact Nat.div_lt_of_lt_mul (by rwa [Nat.mul_comm, ← Nat.pow_add])

section
variable {off p w : Nat}

/-- A field of adjacent parts reads as the parts side by side, the first more significant (R112). -/
theorem extractBits_append_toNat (h : legalPos off (p + w) = true) (word : Word) :
    (extractBits word off (p + w)).toNat =
      2 ^ w * (extractBits word off p).toNat + (extractBits word (off + p) w).toNat := by
  obtain ⟨-, hwidth, -, hend⟩ := legalPos_iff.1 h
  have hhigh : shamt off p = shamt off (p + w) + w := by simp only [shamt]; omega
  have hlow : shamt (off + p) w = shamt off (p + w) := by simp only [shamt]; omega
  rw [extractBits_toNat hwidth, extractBits_toNat (by omega), extractBits_toNat (by omega), hhigh, hlow, Nat.pow_add,
    Nat.pow_add, ← Nat.div_div_eq_div_mul, Nat.mul_comm (2 ^ p), Nat.mod_mul, Nat.add_comm]

/-- Writing two adjacent parts, each with its slice, writes the whole (R112). -/
theorem depositBits_append (h : legalPos off (p + w) = true) (hp : 1 ≤ p) (hw : 1 ≤ w) (word : Word) {x : Word}
    (hx : x.toNat < 2 ^ (p + w)) :
    depositBits (depositBits word off p (x >>> w)) (off + p) w (x &&& mask w) = depositBits word off (p + w) x := by
  obtain ⟨-, hwidth, hoff, hend⟩ := legalPos_iff.1 h
  have hhigh : legalPos off p = true := legalPos_iff.2 (by omega)
  have hlow : legalPos (off + p) w = true := legalPos_iff.2 (by omega)
  have hhighS : shamt off p = shamt off (p + w) + w := by simp only [shamt]; omega
  have hlowS : shamt (off + p) w = shamt off (p + w) := by simp only [shamt]; omega
  have hsum := width_add_shamt h
  refine BitVec.eq_of_getLsbD_eq fun i hi => ?_
  rw [depositBits_getLsbD hlow _ (and_mask_fits (by omega) x) hi, depositBits_getLsbD hhigh _ (ushiftRight_fits hx) hi,
    depositBits_getLsbD h _ hx hi, BitVec.getLsbD_and, mask_getLsbD (by omega), BitVec.getLsbD_ushiftRight, hhighS,
    hlowS]
  generalize shamt off (p + w) = k at hsum ⊢
  by_cases hil : k ≤ i ∧ i < 32 - (off + p)
  · have hlt : i - k < w := by omega
    rw [if_pos hil, if_pos (by omega), decide_eq_true hlt, Bool.and_true]
  · rw [if_neg hil]
    by_cases hih : k + w ≤ i ∧ i < 32 - off
    · have hbit : w + (i - (k + w)) = i - k := by omega
      rw [if_pos hih, if_pos (by omega), hbit]
    · rw [if_neg hih, if_neg (by omega)]

end

/-- A write of a field inside a field, read through the outer one, is a write inside its value (R88 (d), R112): the
value's `w1` bits stand at the least significant end of the 32. -/
theorem extractBits_depositBits_of_inside {off1 w1 off2 w2 : Nat} (h1 : legalPos off1 w1 = true)
    (h2 : legalPos off2 w2 = true) (hlo : off1 ≤ off2) (hhi : off2 + w2 ≤ off1 + w1) (word : Word) {v : Word}
    (hv : v.toNat < 2 ^ w2) :
    extractBits (depositBits word off2 w2 v) off1 w1 =
      depositBits (extractBits word off1 w1) (32 - w1 + (off2 - off1)) w2 v := by
  obtain ⟨-, hw1, -, hs1⟩ := legalPos_iff.1 h1
  obtain ⟨hw2, -, -, hs2⟩ := legalPos_iff.1 h2
  have h3 : legalPos (32 - w1 + (off2 - off1)) w2 = true := legalPos_iff.2 (by omega)
  have hsum1 := width_add_shamt h1
  have hsum2 := width_add_shamt h2
  have hsum3 := width_add_shamt h3
  refine BitVec.eq_of_getLsbD_eq fun i hi => ?_
  rw [extractBits_getLsbD h1, depositBits_getLsbD h3 _ hv hi, extractBits_getLsbD h1]
  by_cases hiw : i < w1
  · rw [decide_eq_true hiw, Bool.true_and, Bool.true_and, depositBits_getLsbD h2 word hv (by omega)]
    generalize shamt off1 w1 = k1, shamt off2 w2 = k2, shamt _ w2 = k3 at hsum1 hsum2 hsum3 ⊢
    by_cases hin : k3 ≤ i ∧ i < 32 - (32 - w1 + (off2 - off1))
    · have hbit : k1 + i - k2 = i - k3 := by omega
      rw [if_pos hin, if_pos (by omega), hbit]
    · rw [if_neg hin, if_neg (by omega)]
  · rw [decide_eq_false hiw, if_neg (by omega), Bool.false_and, Bool.false_and]

/-- The field with descriptor `m` lies inside the one with descriptor `d`, in the same word (R112). -/
abbrev Inside (m d : FieldDesc) : Prop :=
  m.widx = d.widx ∧ d.off ≤ m.off ∧ m.off + m.w ≤ d.off + d.w ∧ legalPos m.off m.w = true ∧
    legalPos d.off d.w = true

section
variable {s : State} {d m : FieldDesc} {v : Word} {k off p w n : Nat}

/-- Two adjacent fields of a state side by side (R112). -/
theorem State.field_append_toNat (h : legalPos off (p + w) = true) (s : State) (k : Nat) :
    (s.field ⟨k, off, p + w⟩).toNat = 2 ^ w * (s.field ⟨k, off, p⟩).toNat + (s.field ⟨k, off + p, w⟩).toNat :=
  extractBits_append_toNat h _

/-- A field inside a field is read out of the outer one's value (R88 (d)). -/
theorem State.field_of_inside (h : Inside m d) (s : State) :
    s.field m = extractIn d.w (s.field d) (m.off - d.off) m.w := by
  obtain ⟨hidx, hlo, hhi, hm, hd⟩ := h
  rw [State.field, State.field, hidx, extractIn_extractBits hd hm hlo hhi]

/-- After a deposit to a field, a field inside it reads its slice of the value (R112). -/
theorem State.field_deposit_of_inside (h : Inside m d) (hd : d.legal s.ht.numWords = true) (hv : v.toNat < 2 ^ d.w) :
    (s.deposit d v).field m = extractIn d.w v (m.off - d.off) m.w := by
  rw [State.field_of_inside h, State.field_deposit_self hd hv]

/-- A deposit to a field inside another changes its slice of the outer one's value only (R112). -/
theorem State.field_deposit_inside (h : Inside m d) (hm : m.legal s.ht.numWords = true) (hv : v.toNat < 2 ^ m.w) :
    (s.deposit m v).field d = depositBits (s.field d) (32 - d.w + (m.off - d.off)) m.w v := by
  obtain ⟨hm, hlt⟩ := FieldDesc.legal_iff.1 hm
  obtain ⟨hidx, hlo, hhi, -, hd⟩ := h
  have hword : (s.deposit m v).W[d.widx]? = some (depositBits (s.W.getD m.widx 0) m.off m.w v) := by
    rw [State.deposit, State.writeWord_W, ← hidx, List.getElem?_set_self (by rwa [s.W_length])]
  rw [State.field_of_word hword, extractBits_depositBits_of_inside hd hm hlo hhi _ hv, State.field, hidx]

/-- When the first `p` bits of a run of adjacent fields have been written with the top of a value, the next field's
slice is the value's next `w` bits (R112). -/
theorem State.deposit_next (s : State) (k : Nat) (hv : v.toNat < 2 ^ (p + w + n))
    (h : legalPos off (p + w) = true := by decide) (hp : 1 ≤ p := by decide) (hw : 1 ≤ w := by decide) :
    (s.deposit ⟨k, off, p⟩ (v >>> (n + w))).deposit ⟨k, off + p, w⟩ ((v >>> n) &&& mask w) =
      s.deposit ⟨k, off, p + w⟩ (v >>> n) := by
  refine State.ext_W (by simp) (List.ext_getElem? fun j => ?_) rfl rfl
  simp only [State.deposit_W, List.getElem?_modify, BitVec.shiftRight_add]
  cases s.W[j]? with
  | none => rfl
  | some word =>
    by_cases hj : k = j
    · simp [hj, depositBits_append h hp hw word (ushiftRight_fits hv)]
    · simp [hj]

end

end Sys2Proof.Machine
end

section
/-!
The two composites of the IPV4 header and their members (spec/41_container_ops.md R112; spec/45_enum_views.md R192 to
R194). Each is a run of adjacent members, so the laws of adjacent and of nested fields say how the two views agree.
-/

namespace Sys2Proof.Machine

section
variable {i : Instr} {ht : HeaderType} {d : FieldDesc} {s : State}

/-- The answer of GET, its descriptor found in the tables (R104). -/
theorem answer_get_field (hs : s.ht = ht) (hi : OnField i 0b100#3 ht d := by exact ⟨rfl, rfl, rfl⟩) :
    answer i s = some (valueResponse (s.field d)) :=
  answer_of_next (exec_get_field hs hi)

/-- An accepted SET, its descriptor and its value found in the tables (R105). -/
theorem exec_set_field {v : Word} (hs : s.ht = ht) (hv : v.toNat < 2 ^ d.w)
    (hi : OnField i 0b101#3 ht d := by exact ⟨rfl, rfl, rfl⟩) (hval : i.valueOperand = v := by rfl) :
    exec i s = .next ((s.deposit d v).respond okResponse) := by
  subst hval
  exact exec_set_fits hs hi hv

end

section
variable {s : State} {v : Word}

/-- The value of TOS is that of its members side by side (R112, R192). -/
theorem State.field_tos_toNat (s : State) :
    (s.field Ipv4.tos).toNat = 2 ^ 5 * (s.field Ipv4.precedence).toNat + 2 ^ 4 * (s.field Ipv4.delay).toNat +
      2 ^ 3 * (s.field Ipv4.throughput).toNat + 2 ^ 2 * (s.field Ipv4.reliability).toNat +
      2 ^ 0 * (s.field Ipv4.tosRsvd).toNat := by
  have h8 : (s.field Ipv4.tos).toNat = 2 ^ 5 * (s.field Ipv4.precedence).toNat + (s.field ⟨0, 11, 5⟩).toNat :=
    State.field_append_toNat (p := 3) (w := 5) (by decide) s 0
  have h5 : (s.field ⟨0, 11, 5⟩).toNat = 2 ^ 4 * (s.field Ipv4.delay).toNat + (s.field ⟨0, 12, 4⟩).toNat :=
    State.field_append_toNat (p := 1) (w := 4) (by decide) s 0
  have h4 : (s.field ⟨0, 12, 4⟩).toNat = 2 ^ 3 * (s.field Ipv4.throughput).toNat + (s.field ⟨0, 13, 3⟩).toNat :=
    State.field_append_toNat (p := 1) (w := 3) (by decide) s 0
  have h3 : (s.field ⟨0, 13, 3⟩).toNat = 2 ^ 2 * (s.field Ipv4.reliability).toNat + (s.field Ipv4.tosRsvd).toNat :=
    State.field_append_toNat (p := 1) (w := 2) (by decide) s 0
  omega

/-- The value of FLAGS is that of its members side by side (R112, R193). -/
theorem State.field_flags_toNat (s : State) :
    (s.field Ipv4.flags).toNat = 2 ^ 2 * (s.field Ipv4.flagsRsvd).toNat + 2 ^ 1 * (s.field Ipv4.df).toNat +
      2 ^ 0 * (s.field Ipv4.mf).toNat := by
  have h3 : (s.field Ipv4.flags).toNat = 2 ^ 2 * (s.field Ipv4.flagsRsvd).toNat + (s.field ⟨1, 17, 2⟩).toNat :=
    State.field_append_toNat (p := 1) (w := 2) (by decide) s 1
  have h2 : (s.field ⟨1, 17, 2⟩).toNat = 2 ^ 1 * (s.field Ipv4.df).toNat + (s.field Ipv4.mf).toNat :=
    State.field_append_toNat (p := 1) (w := 1) (by decide) s 1
  omega

/-- Writing the members of TOS in order, each with its slice of a value, writes TOS with the value (R112). -/
theorem State.deposit_tos_members (s : State) (hv : v.toNat < 2 ^ 8) :
    ((((s.deposit Ipv4.precedence ((v >>> 5) &&& 0x00000007#32)).deposit
      Ipv4.delay ((v >>> 4) &&& 0x00000001#32)).deposit
      Ipv4.throughput ((v >>> 3) &&& 0x00000001#32)).deposit
      Ipv4.reliability ((v >>> 2) &&& 0x00000001#32)).deposit
      Ipv4.tosRsvd ((v >>> 0) &&& 0x00000003#32) = s.deposit Ipv4.tos v := by
  have hprec : (v >>> 5) &&& 0x00000007#32 = v >>> 5 := and_mask_of_fits (w := 3) (by decide) (ushiftRight_fits hv)
  have hdelay : (s.deposit Ipv4.precedence (v >>> 5)).deposit Ipv4.delay ((v >>> 4) &&& 0x00000001#32) =
      s.deposit ⟨0, 8, 4⟩ (v >>> 4) :=
    State.deposit_next (p := 3) (w := 1) (n := 4) s 0 hv
  have hthroughput : (s.deposit ⟨0, 8, 4⟩ (v >>> 4)).deposit Ipv4.throughput ((v >>> 3) &&& 0x00000001#32) =
      s.deposit ⟨0, 8, 5⟩ (v >>> 3) :=
    State.deposit_next (p := 4) (w := 1) (n := 3) s 0 hv
  have hreliability : (s.deposit ⟨0, 8, 5⟩ (v >>> 3)).deposit Ipv4.reliability ((v >>> 2) &&& 0x00000001#32) =
      s.deposit ⟨0, 8, 6⟩ (v >>> 2) :=
    State.deposit_next (p := 5) (w := 1) (n := 2) s 0 hv
  have hrsvd : (s.deposit ⟨0, 8, 6⟩ (v >>> 2)).deposit Ipv4.tosRsvd ((v >>> 0) &&& 0x00000003#32) =
      s.deposit Ipv4.tos (v >>> 0) :=
    State.deposit_next (p := 6) (w := 2) (n := 0) s 0 hv
  rw [hprec, hdelay, hthroughput, hreliability, hrsvd, BitVec.ushiftRight_zero]

/-- Writing the members of FLAGS in order, each with its slice of a value, writes FLAGS with the value (R112). -/
theorem State.deposit_flags_members (s : State) (hv : v.toNat < 2 ^ 3) :
    ((s.deposit Ipv4.flagsRsvd ((v >>> 2) &&& 0x00000001#32)).deposit Ipv4.df ((v >>> 1) &&& 0x00000001#32)).deposit
      Ipv4.mf ((v >>> 0) &&& 0x00000001#32) = s.deposit Ipv4.flags v := by
  have hrsvd : (v >>> 2) &&& 0x00000001#32 = v >>> 2 := and_mask_of_fits (w := 1) (by decide) (ushiftRight_fits hv)
  have hdf : (s.deposit Ipv4.flagsRsvd (v >>> 2)).deposit Ipv4.df ((v >>> 1) &&& 0x00000001#32) =
      s.deposit ⟨1, 16, 2⟩ (v >>> 1) :=
    State.deposit_next (p := 1) (w := 1) (n := 1) s 1 hv
  have hmf : (s.deposit ⟨1, 16, 2⟩ (v >>> 1)).deposit Ipv4.mf ((v >>> 0) &&& 0x00000001#32) =
      s.deposit Ipv4.flags (v >>> 0) :=
    State.deposit_next (p := 2) (w := 1) (n := 0) s 1 hv
  rw [hrsvd, hdf, hmf, BitVec.ushiftRight_zero]

/-- A SET of a member changes its slice of the composite's value only (R112). -/
theorem exec_set_member {i : Instr} {ht : HeaderType} {m d : FieldDesc} {x : Word} (hs : s.ht = ht)
    (hv : v.toNat < 2 ^ m.w) (hi : OnField i 0b101#3 ht m := by exact ⟨rfl, rfl, rfl⟩)
    (hval : i.valueOperand = v := by rfl) (hin : Inside m d := by decide) (hm : m.legal ht.numWords = true := by rfl)
    (hx : depositBits (s.field d) (32 - d.w + (m.off - d.off)) m.w v = x := by rfl) :
    ∃ t, exec i s = .next t ∧ t.field d = x := by
  subst hs hx
  exact ⟨_, exec_set_field rfl hv hi hval, State.field_deposit_inside hin hm hv⟩

/-- After a SET of a composite, a member reads its slice of the value (R112). -/
theorem State.field_member {ht : HeaderType} {m d : FieldDesc} {x : Word} (hs : s.ht = ht) (hv : v.toNat < 2 ^ d.w)
    (hin : Inside m d := by decide) (hd : d.legal ht.numWords = true := by rfl)
    (hx : extractIn d.w v (m.off - d.off) m.w = x := by rfl) :
    ((s.deposit d v).respond okResponse).field m = x := by
  subst hs hx
  exact State.field_deposit_of_inside hin hd hv

/-- What GET of a member answers after a SET of its composite (R112). -/
theorem answer_get_member {j : Instr} {ht : HeaderType} {m d : FieldDesc} {x : Word} (hs : s.ht = ht)
    (hv : v.toNat < 2 ^ d.w) (hx : extractIn d.w v (m.off - d.off) m.w = x)
    (hj : OnField j 0b100#3 ht m := by exact ⟨rfl, rfl, rfl⟩) (hin : Inside m d := by decide)
    (hd : d.legal ht.numWords = true := by rfl) :
    answer j ((s.deposit d v).respond okResponse) = some (valueResponse x) := by
  rw [← State.field_member hs hv hin hd hx]
  exact answer_get_field ((s.deposit_ht d v).trans hs) hj

/-- A list of commands that starts with an accepted SET runs on from the deposit. -/
theorem execAll_set_cons {i : Instr} {ht : HeaderType} {d : FieldDesc} {is : List Instr} {u : State} (hs : s.ht = ht)
    (hv : v.toNat < 2 ^ d.w) (hrest : execAll is ((s.deposit d v).respond okResponse) = some u)
    (hi : OnField i 0b101#3 ht d := by exact ⟨rfl, rfl, rfl⟩) (hval : i.valueOperand = v := by rfl) :
    execAll (i :: is) s = some u :=
  execAll_cons_eq_some.2 ⟨_, exec_set_field hs hv hi hval, hrest⟩

/-- Setting the members of TOS in order, each to its slice of a value, writes TOS with the value (R112). -/
theorem execAll_set_tos_members (hs : s.ht = .ipv4) (hv : v.toNat < 2 ^ 8) :
    execAll [.setIpv4Precedence ((v >>> 5) &&& 0x00000007#32), .setIpv4Delay ((v >>> 4) &&& 0x00000001#32),
      .setIpv4Throughput ((v >>> 3) &&& 0x00000001#32), .setIpv4Reliability ((v >>> 2) &&& 0x00000001#32),
      .setIpv4TosRsvd ((v >>> 0) &&& 0x00000003#32)] s = some ((s.deposit Ipv4.tos v).respond okResponse) := by
  rw [← s.deposit_tos_members hv]
  refine execAll_set_cons hs (and_mask_fits (w := 3) (by decide) _) ?_
  refine execAll_set_cons (ht := .ipv4) (by simp [hs]) (and_mask_fits (w := 1) (by decide) _) ?_
  refine execAll_set_cons (ht := .ipv4) (by simp [hs]) (and_mask_fits (w := 1) (by decide) _) ?_
  refine execAll_set_cons (ht := .ipv4) (by simp [hs]) (and_mask_fits (w := 1) (by decide) _) ?_
  refine execAll_set_cons (ht := .ipv4) (by simp [hs]) (and_mask_fits (w := 2) (by decide) _) ?_
  rfl

/-- Setting the members of FLAGS in order, each to its slice of a value, writes FLAGS with the value (R112). -/
theorem execAll_set_flags_members (hs : s.ht = .ipv4) (hv : v.toNat < 2 ^ 3) :
    execAll [.setIpv4FlagsRsvd ((v >>> 2) &&& 0x00000001#32), .setIpv4Df ((v >>> 1) &&& 0x00000001#32),
      .setIpv4Mf ((v >>> 0) &&& 0x00000001#32)] s = some ((s.deposit Ipv4.flags v).respond okResponse) := by
  rw [← s.deposit_flags_members hv]
  refine execAll_set_cons hs (and_mask_fits (w := 1) (by decide) _) ?_
  refine execAll_set_cons (ht := .ipv4) (by simp [hs]) (and_mask_fits (w := 1) (by decide) _) ?_
  refine execAll_set_cons (ht := .ipv4) (by simp [hs]) (and_mask_fits (w := 1) (by decide) _) ?_
  rfl

end

/-- Settles O40: TOS by the laws of adjacent and of nested fields. -/
theorem tosIsItsMembersSideBySide : Obligations.TosIsItsMembersSideBySide := by
  intro s v hs
  refine ⟨⟨answer_get_field hs, s.field_tos_toNat⟩, fun hv => ?_, (exec_set_member hs ·), (exec_set_member hs ·),
    (exec_set_member hs ·), (exec_set_member hs ·), (exec_set_member hs ·)⟩
  exact ⟨_, _, exec_set_field (d := Ipv4.tos) hs hv, execAll_set_tos_members hs hv, rfl, State.field_member hs hv,
    State.field_member hs hv, State.field_member hs hv, State.field_member hs hv, State.field_member hs hv⟩

/-- Settles O41: FLAGS by the laws of adjacent and of nested fields. -/
theorem flagsIsItsMembersSideBySide : Obligations.FlagsIsItsMembersSideBySide := by
  intro s v hs
  refine ⟨⟨answer_get_field hs, s.field_flags_toNat⟩, fun hv => ?_, (exec_set_member hs ·), (exec_set_member hs ·),
    (exec_set_member hs ·)⟩
  exact ⟨_, _, exec_set_field (d := Ipv4.flags) hs hv, execAll_set_flags_members hs hv, rfl, State.field_member hs hv,
    State.field_member hs hv, State.field_member hs hv⟩

/-- The members of FLAGS read out of its value are the projections of the nested container (R193). -/
theorem flags_members_eq_projections (g : BitVec 3) :
    extractIn 3 (g.setWidth 32) 0 1 = (flagsReserved g).setWidth 32 ∧
      extractIn 3 (g.setWidth 32) 1 1 = (flagsDf g).setWidth 32 ∧
      extractIn 3 (g.setWidth 32) 2 1 = (flagsMf g).setWidth 32 := by
  revert g
  decide

/-- The members of TOS read out of its value are the projections of the nested container (R192). -/
theorem tos_members_eq_projections (t : BitVec 8) :
    extractIn 8 (t.setWidth 32) 0 3 = (tosPrecedence t).setWidth 32 ∧
      extractIn 8 (t.setWidth 32) 3 1 = (tosDelay t).setWidth 32 ∧
      extractIn 8 (t.setWidth 32) 4 1 = (tosThroughput t).setWidth 32 ∧
      extractIn 8 (t.setWidth 32) 5 1 = (tosReliability t).setWidth 32 ∧
      extractIn 8 (t.setWidth 32) 6 2 = (tosReserved t).setWidth 32 := by
  revert t
  decide

/-- A narrow value shown on 32 bits fits in its width. -/
theorem setWidth_fits {k : Nat} (hk : k ≤ 32) (c : BitVec k) : (c.setWidth 32).toNat < 2 ^ k := by
  rw [BitVec.toNat_setWidth_of_le hk]
  exact c.isLt

/-- A value that fits is shown whole on its width. -/
theorem setWidth_setWidth_of_fits {k : Nat} {x : Word} (hk : k ≤ 32) (hx : x.toNat < 2 ^ k) :
    (x.setWidth k).setWidth 32 = x := by
  apply BitVec.eq_of_toNat_eq
  rw [BitVec.toNat_setWidth_of_le hk, BitVec.toNat_setWidth, Nat.mod_eq_of_lt hx]

/-- What a field holds fits in its width (R83). -/
theorem State.field_fits {d : FieldDesc} (hd : d.w ≤ 32) (s : State) : (s.field d).toNat < 2 ^ d.w :=
  extractBits_fits hd _

/-- DF is shown as Don't Fragment exactly when bit 1 of FLAGS is set (R190, R194). -/
theorem geteDf_eq_dontFragment_iff (g : BitVec 3) :
    geteDf (valueResponse ((flagsDf g).setWidth 32)) = some .dontFragment ↔ g.getLsbD 1 = true := by
  revert g
  decide

/-- The value of FLAGS is read out of itself whole. -/
theorem extractIn_flags_self (g : BitVec 3) : extractIn 3 (g.setWidth 32) 0 3 = g.setWidth 32 := by
  revert g
  decide

/-- After SET DF, 1 bit 1 of FLAGS is set (R194). -/
theorem State.field_flags_getLsbD_of_set_df {s : State} (hs : s.ht = .ipv4) :
    ((s.deposit Ipv4.df 1).field Ipv4.flags).getLsbD 1 = true := by
  rw [State.field_deposit_inside (by decide) (by rw [hs]; rfl) (by decide)]
  exact depositBits_getLsbD_inField (off := 30) (w := 1) (i := 1) (by decide) _ (by decide) (by decide)

/-- Settles O42: the members read the projections of the value that was set, and DF is the middle bit. -/
theorem dontFragmentViewsAgree : Obligations.DontFragmentViewsAgree := by
  intro s g hs
  obtain ⟨hrsvd, hdf, hmf⟩ := flags_members_eq_projections g
  have hg : (g.setWidth 32).toNat < 2 ^ Ipv4.flags.w := setWidth_fits (by decide) g
  have h1 : (1 : Word).toNat < 2 ^ Ipv4.df.w := by decide
  have hanswer := answer_get_member (j := .getIpv4Df) (m := Ipv4.df) hs hg hdf
  have hanswer1 := answer_get_member (j := .getIpv4Df) (m := Ipv4.df) (x := 1) hs h1 (by decide)
  refine ⟨⟨_, exec_set_field hs hg, answer_get_member (m := Ipv4.flags) hs hg (extractIn_flags_self g),
    answer_get_member (m := Ipv4.flagsRsvd) hs hg hrsvd, hanswer, answer_get_member (m := Ipv4.mf) hs hg hmf, ?_⟩,
    ⟨_, _, exec_set_field hs h1, answer_get_field (d := Ipv4.flags) ((s.deposit_ht _ _).trans hs),
    State.field_flags_getLsbD_of_set_df hs, ?_⟩⟩
  · rw [hanswer, Option.bind_some]
    exact geteDf_eq_dontFragment_iff g
  · rw [hanswer1]
    rfl

/-- TosPack is inverse to its projections (R192). -/
theorem tosPack_projections (t : BitVec 8) :
    tosPack (tosPrecedence t) (tosDelay t) (tosThroughput t) (tosReliability t) (tosReserved t) = t := by
  revert t
  decide

/-- FlagsPack is inverse to its projections (R193). -/
theorem flagsPack_projections (g : BitVec 3) : flagsPack (flagsReserved g) (flagsDf g) (flagsMf g) = g := by
  revert g
  decide

/-- GET of a field inside another answers its slice of that one's value (R88 (d), R104). -/
theorem answer_get_inside {i : Instr} {ht : HeaderType} {m d : FieldDesc} {s : State} {v x : Word} (hs : s.ht = ht)
    (hv : s.field d = v) (hx : extractIn d.w v (m.off - d.off) m.w = x)
    (hi : OnField i 0b100#3 ht m := by exact ⟨rfl, rfl, rfl⟩) (hin : Inside m d := by decide) :
    answer i s = some (valueResponse x) := by
  rw [← hx, ← hv, ← State.field_of_inside hin]
  exact answer_get_field hs hi

/-- Settles O43: packing and projecting on the finitely many values; the members of the value a composite holds are its
projections, so the composite's value is their pack. -/
theorem packFunctionsAreTheirProjections : Obligations.PackFunctionsAreTheirProjections := by
  refine ⟨by decide, tosPack_projections, by decide, flagsPack_projections, fun s hs => ⟨?tos, ?flags⟩⟩
  case tos =>
    have hv : s.field Ipv4.tos = ((s.field Ipv4.tos).setWidth 8).setWidth 32 :=
      (setWidth_setWidth_of_fits (by decide) (State.field_fits (by decide) s)).symm
    generalize (s.field Ipv4.tos).setWidth 8 = t at hv
    obtain ⟨hp, hd, hth, hr, hz⟩ := tos_members_eq_projections t
    refine ⟨_, _, _, _, _, answer_get_inside (m := Ipv4.precedence) hs hv hp,
      answer_get_inside (m := Ipv4.delay) hs hv hd, answer_get_inside (m := Ipv4.throughput) hs hv hth,
      answer_get_inside (m := Ipv4.reliability) hs hv hr, answer_get_inside (m := Ipv4.tosRsvd) hs hv hz, ?_⟩
    rw [tosPack_projections, ← hv]
    exact answer_get_field hs
  case flags =>
    have hv : s.field Ipv4.flags = ((s.field Ipv4.flags).setWidth 3).setWidth 32 :=
      (setWidth_setWidth_of_fits (by decide) (State.field_fits (by decide) s)).symm
    generalize (s.field Ipv4.flags).setWidth 3 = g at hv
    obtain ⟨hz, hdf, hmf⟩ := flags_members_eq_projections g
    refine ⟨_, _, _, answer_get_inside (m := Ipv4.flagsRsvd) hs hv hz, answer_get_inside (m := Ipv4.df) hs hv hdf,
      answer_get_inside (m := Ipv4.mf) hs hv hmf, ?_⟩
    rw [flagsPack_projections, ← hv]
    exact answer_get_field hs

end Sys2Proof.Machine
end

section
/-!
The six enumerated views (spec/45_enum_views.md R185 to R191, R195): bijections between names and raw values, and a
round trip through SETE and GETE, whose codes fit in their fields.
-/

namespace Sys2Proof.Machine

/-- Settles O44: every name and every raw value of each view. -/
theorem enumeratedViewsAreBijections : Obligations.EnumeratedViewsAreBijections := by
  refine ⟨fun n => ?_, by decide, fun n => ?_, by decide, fun n => ?_, by decide, fun n => ?_, by decide, fun n => ?_,
    by decide, fun n => ?_, by decide⟩ <;> cases n <;> rfl

/-- SET of a code succeeds, and GET then shows the name that the view gives the code (R195). -/
theorem exec_set_code {i j : Instr} {ht : HeaderType} {d : FieldDesc} {s : State} {α : Type}
    {gete : Response → Option α} {n : α} {v : Word} (hs : s.ht = ht) (hv : v.toNat < 2 ^ d.w)
    (hn : gete (valueResponse v) = some n)
    (hi : OnField i 0b101#3 ht d := by exact ⟨rfl, rfl, rfl⟩) (hval : i.valueOperand = v := by rfl)
    (hj : OnField j 0b100#3 ht d := by exact ⟨rfl, rfl, rfl⟩) (hd : d.legal ht.numWords = true := by rfl) :
    ∃ t, exec i s = .next t ∧ t.rsp = some ⟨false, none, none⟩ ∧ (answer j t).bind gete = some n := by
  subst hs
  refine ⟨_, exec_set_field rfl hv hi hval, rfl, ?_⟩
  rw [answer_get_field (((s.deposit d v).respond_ht okResponse).trans (s.deposit_ht d v)) hj, State.field_respond,
    State.field_deposit_self hd hv, Option.bind_some, hn]

/-- Settles O45: every code fits in its field, and its view gives the name back. -/
theorem settingThroughAViewNeverFails : Obligations.SettingThroughAViewNeverFails := by
  intro s hs
  refine ⟨fun n => ?_, fun n => ?_, fun n => ?_, fun n => ?_, fun n => ?_, fun n => ?_⟩
  all_goals exact exec_set_code (v := n.code.setWidth 32) hs (setWidth_fits (by decide) n.code) (by cases n <;> rfl)

end Sys2Proof.Machine
end

section
/-!
The bit-field unit by its ports (spec/30_encoding.md R71; spec/40_bitfield_unit.md R90): both outputs inside the
descriptor domain, none outside.
-/

namespace Sys2Proof.Machine

section
variable {word value : Word} {off : BitVec 5} {width : BitVec 6}

/-- The outputs for a value that fits (R71, R84). -/
theorem bfu_of_fits (h : legalPos off.toNat width.toNat = true) (hv : value.toNat < 2 ^ width.toNat) :
    bfu word off width value =
      some ⟨extractBits word off.toNat width.toNat, some (depositBits word off.toNat width.toNat value), false⟩ := by
  simp only [bfu, extract_of_legal h, deposit_of_fits h word hv]

/-- `deposit` of a value that does not fit, inside its domain (R84). -/
theorem deposit_of_not_fits {off w : Nat} (h : legalPos off w = true) (word : Word) {v : Word} (hv : 2 ^ w ≤ v.toNat) :
    deposit word off w v = some .outOfRange := by
  obtain ⟨-, hw, -, -⟩ := legalPos_iff.1 h
  exact deposit_eq_some_iff.2 ⟨h, .inl ⟨(exceeds_iff hw v).2 hv, rfl⟩⟩

/-- The outputs for a value that does not fit: no word (R71, R84). -/
theorem bfu_of_not_fits (h : legalPos off.toNat width.toNat = true) (hv : 2 ^ width.toNat ≤ value.toNat) :
    bfu word off width value = some ⟨extractBits word off.toNat width.toNat, none, true⟩ := by
  simp only [bfu, extract_of_legal h, deposit_of_not_fits h word hv]

/-- Outside the descriptor domain there is no output (R90). -/
theorem bfu_of_not_legal (h : legalPos off.toNat width.toNat = false) : bfu word off width value = none := by
  simp [bfu, extract, h]

end

/-- The extracted value is the slice of the word, zero-extended (R83). -/
theorem extractBits_eq_extractLsb' {off w : Nat} (h : legalPos off w = true) (word : Word) :
    extractBits word off w = (word.extractLsb' (32 - off - w) w).setWidth 32 := by
  refine BitVec.eq_of_getLsbD_eq fun i hi => ?_
  rw [extractBits_getLsbD h, BitVec.getLsbD_setWidth, BitVec.getLsbD_extractLsb', decide_eq_true hi, Bool.true_and,
    shamt, Nat.sub_right_comm]

/-- The wire bits of a deposit: the value's from `off` on, most significant first, the old word's elsewhere (R84). -/
theorem wireBit_depositBits {off w k : Nat} (h : legalPos off w = true) (word : Word) {v : Word} (hv : v.toNat < 2 ^ w)
    (hk : k < 32) : wireBit (depositBits word off w v) k =
      if off ≤ k ∧ k < off + w then v.getLsbD (off + w - 1 - k) else wireBit word k := by
  have hiff := inField_wire_iff h hk
  rw [wireBit, wireBit]
  split
  next hin =>
    obtain ⟨-, -, -, hs⟩ := legalPos_iff.1 h
    have hbit : 31 - k - shamt off w = off + w - 1 - k := by rw [shamt]; omega
    rw [depositBits_getLsbD_inField h word hv (hiff.2 hin), hbit]
  next hout => exact depositBits_getLsbD_of_not_inField h word hv (by omega) (mt hiff.1 hout)

/-- Settles O53: inside the domain by whether the value fits, outside it neither output is defined. -/
theorem bitFieldUnitAnswersInItsDomainOnly : Obligations.BitFieldUnitAnswersInItsDomainOnly := by
  refine fun word value off width => ⟨fun h1 hend => ?_, fun hout => bfu_of_not_legal ?_⟩
  · have h : legalPos off.toNat width.toNat = true := legalPos_iff.2 (by omega)
    have hslice := extractBits_eq_extractLsb' h word
    rcases Nat.lt_or_ge value.toNat (2 ^ width.toNat) with hv | hv
    · refine ⟨_, bfu_of_fits h hv, hslice, iff_of_false Bool.false_ne_true ?_, (absurd · Bool.false_ne_true),
        fun _ => ?_⟩
      · rw [pred_two_pow_lt_iff]
        exact Nat.not_le.2 hv
      · exact ⟨_, rfl, fun k hk => wireBit_depositBits h word hv hk⟩
    · exact ⟨_, bfu_of_not_fits h hv, hslice, iff_of_true rfl (pred_two_pow_lt_iff.2 hv), fun _ => rfl,
        (nomatch ·)⟩
  · rw [Bool.eq_false_iff, Ne, legalPos_iff]
    omega

end Sys2Proof.Machine
end

section
/-!
Bytes, words and numbers (spec/20_memory.md R41 to R44, R56; spec/30_encoding.md R65): bytes put side by side are the
number their words show, the bytes decide the buffer, and MemRead and MemWrite inside their domain.
-/

namespace Sys2Proof.Machine

/-- Bytes put side by side as numbers (R43). -/
theorem bigEndian_append (xs ys : List Byte) :
    bigEndian (xs ++ ys) = bigEndian xs * 2 ^ (8 * ys.length) + bigEndian ys := by
  induction xs with
  | nil => simp [bigEndian]
  | cons x xs ih =>
    rw [List.cons_append, bigEndian, bigEndian, ih, List.length_append, Nat.mul_add, Nat.pow_add, Nat.add_mul,
      Nat.mul_assoc, Nat.add_assoc]

/-- A byte of a word is the field at its place (R41, R83). -/
theorem byteOf_toNat (w : Word) (k : Nat) : (byteOf w k).toNat = (extractBits w (8 * k) 8).toNat := by
  have h : (byteOf w k).setWidth 32 = extractBits w (8 * k) 8 := byteOf_setWidth w k
  rw [← h, BitVec.toNat_setWidth_of_le (by decide)]

/-- Two bytes of a word side by side are the 16-bit field at their place (R56). -/
theorem bigEndian_two_bytes (w : Word) {k : Nat} (hk : k ≤ 2) :
    bigEndian [byteOf w k, byteOf w (k + 1)] = (extractBits w (8 * k) 16).toNat := by
  have happend : (extractBits w (8 * k) 16).toNat =
      2 ^ 8 * (extractBits w (8 * k) 8).toNat + (extractBits w (8 * (k + 1)) 8).toNat :=
    extractBits_append_toNat (off := 8 * k) (p := 8) (w := 8) (legalPos_iff.2 (by omega)) w
  rw [happend, ← byteOf_toNat, ← byteOf_toNat]
  simp [bigEndian, Nat.mul_comm]

/-- The four bytes of a word side by side are the word (R41). -/
theorem bigEndian_bytesOfWord (w : Word) : bigEndian (bytesOfWord w) = w.toNat := by
  have happend : (extractBits w 0 32).toNat = 2 ^ 16 * (extractBits w 0 16).toNat + (extractBits w 16 16).toNat :=
    extractBits_append_toNat (off := 0) (p := 16) (w := 16) (by decide) w
  rw [extractBits_wholeWord] at happend
  have hsplit : bytesOfWord w = [byteOf w 0, byteOf w 1] ++ [byteOf w 2, byteOf w 3] := rfl
  rw [hsplit, bigEndian_append, bigEndian_two_bytes w (k := 0) (by decide), bigEndian_two_bytes w (k := 2) (by decide),
    happend, Nat.mul_comm]
  rfl

/-- The bytes of the words side by side are the words side by side (R65). -/
theorem bigEndian_bytesOfWords (m : Memory) : bigEndian (bytesOfWords m) = wordBus m := by
  induction m with
  | nil => rfl
  | cons w m ih =>
    rw [bytesOfWords, bigEndian_append, bigEndian_bytesOfWord, ih, bytesOfWords_length, wordBus, ← Nat.mul_assoc]

/-- Byte `j` of a number of `n` bytes (R44, R65). -/
theorem bytesOfNat_getElem {n j : Nat} (h : j < n) (v : Nat) :
    (bytesOfNat n v)[j]? = some (BitVec.ofNat 8 (v >>> (8 * (n - 1 - j)))) := by
  induction n generalizing j with
  | zero => omega
  | succ n ih =>
    rw [bytesOfNat]
    cases j with
    | zero => rw [List.getElem?_cons_zero, Nat.shiftRight_eq_div_pow, Nat.sub_zero, Nat.add_sub_cancel]
    | succ j => rw [List.getElem?_cons_succ, ih (by omega), show n - 1 - j = n + 1 - 1 - (j + 1) by omega]

/-- The words of the bytes of words are the words (R41). -/
theorem wordsOfBytes_bytesOfWords (m : Memory) : wordsOfBytes (bytesOfWords m) = m := by
  induction m with
  | nil => rfl
  | cons w m ih => simp [bytesOfWords, bytesOfWord, wordsOfBytes, wordOfBytes, append_byteOf, ih]

/-- Buffers of one size with the same bytes are the same (R40, R41). -/
theorem Memory.ext_byteAt {m m' : Memory} (hlen : m.length = m'.length)
    (h : ∀ a < 4 * m.length, m.byteAt a = m'.byteAt a) : m = m' := by
  refine List.ext_getElem?' fun i hi => Memory.getElem?_eq_of_byteAt_eq fun k hk => h _ ?_
  rw [← hlen, Nat.max_self] at hi
  omega

/-- Byte `a` of the listed bytes is the byte at address `a` (R41, R103). -/
theorem bytesOfWords_getElem {m : Memory} {a : Nat} (h : a < 4 * m.length) : (bytesOfWords m)[a]? = m.byteAt a := by
  have hbyte := Memory.readBytes_getElem m.readBytes_all a h
  rwa [Nat.zero_add] at hbyte

/-- Writing every byte of the buffer leaves the words of what was written (R44, R102). -/
theorem Memory.writeBytes_whole {m : Memory} {b : List Byte} (h : b.length = 4 * m.length) :
    m.writeBytes 0 b = wordsOfBytes b := by
  have hlen := m.writeBytes_length 0 b
  refine Memory.ext_byteAt (by rw [hlen, wordsOfBytes_length _ b h]) fun a ha => ?_
  rw [hlen] at ha
  have hbyte := Memory.writeBytes_byteAt (m := m) (a := 0) (bs := b) (by omega) a (by omega)
  rw [Nat.zero_add] at hbyte
  rw [hbyte, byteAt_wordsOfBytes h ha]

/-- Bytes that are known at their addresses are the bytes read there (R43). -/
theorem Memory.readBytes_eq_some {m : Memory} {a : Nat} {b : List Byte} (h : a + b.length ≤ 4 * m.length)
    (hb : ∀ j < b.length, m.byteAt (a + j) = b[j]?) : m.readBytes a b.length = some b := by
  obtain ⟨x, hx⟩ := Memory.readBytes_isSome h
  have hlen := Memory.readBytes_length hx
  have hxb : x = b := List.ext_getElem?' fun j hj => by
    rw [hlen, Nat.max_self] at hj
    rw [Memory.readBytes_getElem hx j hj, hb j hj]
  rw [hx, hxb]

section
variable {s : State} {a n v : Nat}

/-- MemRead inside its domain (R43). -/
theorem State.memRead_of_domain (h1 : 1 ≤ n) (hend : a + n ≤ s.ht.numBytes) :
    s.memRead a n = (s.W.readBytes a n).map bigEndian := if_pos ⟨h1, hend⟩

/-- MemWrite inside its domain (R44). -/
theorem State.memWrite_of_domain (h1 : 1 ≤ n) (hend : a + n ≤ s.ht.numBytes) (hv : v < 2 ^ (8 * n)) :
    s.memWrite a n v = some (s.setWords (s.W.writeBytes a (bytesOfNat n v))) := if_pos ⟨h1, hend, hv⟩

/-- MemRead of bytes that are known (R43). -/
theorem State.memRead_of_bytes {b : List Byte} (h1 : 1 ≤ b.length) (hend : a + b.length ≤ s.ht.numBytes)
    (hb : ∀ j < b.length, s.W.byteAt (a + j) = b[j]?) : s.memRead a b.length = some (bigEndian b) := by
  rw [State.memRead_of_domain h1 hend, Memory.readBytes_eq_some (by rwa [s.W_length]) hb, Option.map_some]

end

/-- Every buffer has a byte (R8). -/
theorem one_le_numBytes (ht : HeaderType) : 1 ≤ ht.numBytes := by cases ht <;> decide

/-- Settles O56: the bytes written are those of the number, and read back they are the number. -/
theorem memWriteWritesItsBytesOnly : Obligations.MemWriteWritesItsBytesOnly := by
  intro s a n v h1 hend hv
  have hlen := bytesOfNat_length n v
  have hW : (s.setWords (s.W.writeBytes a (bytesOfNat n v))).W = s.W.writeBytes a (bytesOfNat n v) :=
    State.setWords_W ((Memory.writeBytes_length ..).trans s.W_length)
  have hbyte : ∀ j < n, (s.W.writeBytes a (bytesOfNat n v)).byteAt (a + j) = (bytesOfNat n v)[j]? := fun j hj =>
    Memory.writeBytes_byteAt (by rwa [hlen, s.W_length]) j (by rwa [hlen])
  refine ⟨_, State.memWrite_of_domain h1 hend hv, fun j hj => ?_, fun k hk => ?_, ?_, s.setWords_ht _, rfl, rfl⟩
  · rw [hW, hbyte j hj, bytesOfNat_getElem hj]
  · rw [hW, Memory.writeBytes_byteAt_other (by rwa [hlen])]
  · have hread := State.memRead_of_bytes (s := s.setWords (s.W.writeBytes a (bytesOfNat n v))) (a := a)
      (b := bytesOfNat n v) (by rwa [hlen]) (by rwa [hlen, State.setWords_ht]) (by rwa [hW, hlen])
    rwa [hlen, bigEndian_bytesOfNat n v hv] at hread

/-- Two bytes that are known, read together (R43). -/
theorem Memory.readBytes_two {m : Memory} {a : Nat} {x y : Byte} (hx : m.byteAt a = some x)
    (hy : m.byteAt (a + 1) = some y) : m.readBytes a 2 = some [x, y] := by
  simp [Memory.readBytes, hx, hy]

/-- Settles O57: the bytes of a half word and of a word, side by side, are the field at their place. -/
theorem alignedFieldsAreMemReads : Obligations.AlignedFieldsAreMemReads := by
  intro s i hi
  obtain ⟨w, hw⟩ := s.exists_word hi
  have hend : 4 * i + 4 ≤ s.ht.numBytes := by rw [HeaderType.numBytes]; omega
  have hbyte : ∀ k < 4, s.W.byteAt (4 * i + k) = some (byteOf w k) := fun k hk => by
    rw [Memory.byteAt_four_mul_add _ i hk, hw, Option.map_some]
  have hhigh := Memory.readBytes_two (hbyte 0 (by decide)) (hbyte 1 (by decide))
  have hlow := Memory.readBytes_two (hbyte 2 (by decide)) (hbyte 3 (by decide))
  have hword := Memory.readBytes_append 2 _ 2 _ _ hhigh hlow
  rw [State.field_of_word hw, State.field_of_word hw, State.field_of_word hw]
  refine ⟨?low, ?high, ?whole⟩
  case low =>
    rw [State.memRead_of_domain (by decide) (by omega), hlow]
    exact congrArg some (bigEndian_two_bytes w (k := 2) (by decide))
  case high =>
    rw [State.memRead_of_domain (by decide) (by omega)]
    exact (congrArg (·.map bigEndian) hhigh).trans (congrArg some (bigEndian_two_bytes w (k := 0) (by decide)))
  case whole =>
    rw [State.memRead_of_domain (by decide) hend, extractBits_wholeWord]
    exact (congrArg (·.map bigEndian) hword).trans (congrArg some (bigEndian_bytesOfWord w))

end Sys2Proof.Machine
end

section
/-!
LDB and STB (spec/41_container_ops.md R102, R103; spec/30_encoding.md R65): the buffer as bytes, as words and as one
number, and the round trips.
-/

namespace Sys2Proof.Machine

section
variable {s : State} {b : List Byte}

/-- LDB of a buffer of the instance's size (R102). -/
theorem exec_ldb (h : b.length = s.ht.numBytes) :
    exec (.ldb b) s = .next ((s.setWords (wordsOfBytes b)).respond okResponse) := if_pos h

/-- LDB of a buffer of another size (R65, D18). -/
theorem exec_ldb_refused (h : b.length ≠ s.ht.numBytes) : exec (.ldb b) s = .refused .bufferSize := if_neg h

/-- The words after loading a buffer of the instance's size (R102). -/
theorem State.setWords_wordsOfBytes_W (h : b.length = s.ht.numBytes) :
    (s.setWords (wordsOfBytes b)).W = wordsOfBytes b :=
  State.setWords_W (wordsOfBytes_length _ b h)

/-- Loading a buffer is MemWrite of the whole of it (R44, R102). -/
theorem State.memWrite_whole (h : b.length = s.ht.numBytes) :
    s.memWrite 0 s.ht.numBytes (bigEndian b) = some (s.setWords (wordsOfBytes b)) := by
  have hm : b.length = 4 * s.W.length := by rw [h, s.W_length, HeaderType.numBytes]
  have hlt : bigEndian b < 2 ^ (8 * s.ht.numBytes) := h ▸ bigEndian_lt b
  rw [State.memWrite_of_domain (one_le_numBytes _) (Nat.le_of_eq (Nat.zero_add _)) hlt, ← h, bytesOfNat_bigEndian,
    Memory.writeBytes_whole hm]

/-- What STB answers (R103). -/
theorem exec_stb (s : State) : exec .stb s = .next (s.respond (dataResponse (bytesOfWords s.W))) := rfl

/-- STB answers `BYTES` bytes (R103). -/
theorem State.bytesOfWords_W_length (s : State) : (bytesOfWords s.W).length = s.ht.numBytes := by
  rw [bytesOfWords_length, s.W_length, HeaderType.numBytes]

/-- The bytes STB answers are MemRead of the whole buffer (R43, R103). -/
theorem State.memRead_whole (s : State) : s.memRead 0 s.ht.numBytes = some (bigEndian (bytesOfWords s.W)) := by
  have hall := s.W.readBytes_all
  rw [s.W_length] at hall
  rw [State.memRead_of_domain (one_le_numBytes _) (Nat.le_of_eq (Nat.zero_add _)), HeaderType.numBytes, hall,
    Option.map_some]

end

/-- Settles O17: the loaded words are those of the buffer, and writing all of its bytes gives the same. -/
theorem ldbLoadsTheBuffer : Obligations.LdbLoadsTheBuffer := by
  refine fun s b => ⟨fun h => ⟨decode_ldb h, _, exec_ldb h, s.setWords_ht _, fun i hi => ?_, State.memWrite_whole h⟩,
    fun h => ⟨exec_ldb_refused h, decode_ldb_error h⟩⟩
  have hW : (Container.ofWords s.ht (wordsOfBytes b)).words = wordsOfBytes b := State.setWords_wordsOfBytes_W h
  rw [State.setWords_container, hW]
  exact wordsOfBytes_getElem b s.ht.numWords i h hi

/-- Settles O18: the listed bytes are the bytes at their addresses, and lists of words and of bytes stand for one
another. -/
theorem stbReturnsTheBuffer : Obligations.StbReturnsTheBuffer := by
  refine fun s => ⟨decode_stb s.ht, ⟨_, exec_stb s, s.bytesOfWords_W_length, fun a ha => ?_, s.memRead_whole, ?_⟩,
    fun b hb => ⟨_, exec_ldb hb, ?_⟩⟩
  · obtain ⟨w, hw⟩ := s.exists_word_of_byte ha
    refine ⟨w, hw, ?_⟩
    rw [bytesOfWords_getElem (by rwa [s.W_length]), Memory.byteAt_of_word hw, byteOf]
  · have hlen := s.bytesOfWords_W_length
    refine ⟨_, exec_ldb hlen, ?_⟩
    rw [State.respond_W, State.setWords_wordsOfBytes_W hlen, wordsOfBytes_bytesOfWords]
  · rw [answer_of_next (exec_stb _), State.respond_rsp, State.respond_W, State.setWords_wordsOfBytes_W hb,
      bytesOfWords_wordsOfBytes hb]
    rfl

/-- Settles O59: the bytes side by side are the words side by side, and a byte of that number is the byte at its
place. -/
theorem theDataBusIsTheWordsSideBySide : Obligations.TheDataBusIsTheWordsSideBySide := by
  intro s
  have hlen := s.bytesOfWords_W_length
  have hbytes : bytesOfNat s.ht.numBytes (bigEndian (bytesOfWords s.W)) = bytesOfWords s.W := by
    rw [← hlen, bytesOfNat_bigEndian]
  refine ⟨_, answer_of_next (exec_stb s), hlen, bigEndian_bytesOfWords s.W, hbytes, fun a ha => ?_⟩
  rw [← bigEndian_bytesOfWords, ← bytesOfNat_getElem ha, hbytes]

/-- A field of one bit is that bit (R83). -/
theorem extractBits_one_toNat (word : Word) (off : Nat) :
    (extractBits word off 1).toNat = (word.getLsbD (31 - off)).toNat := by
  rw [extractBits_toNat (by decide), BitVec.getLsbD, Nat.toNat_testBit]
  rfl

/-- Settles O47: bytes 12 and 13 are two neighbouring bytes of word 3, in which the fields have their places. -/
theorem tcpFlagsOccupyByteThirteen : Obligations.TcpFlagsOccupyByteThirteen := by
  intro s hs
  obtain ⟨w, hw⟩ := s.exists_word (i := 3) (by rw [hs]; decide)
  have hbyte : ∀ k < 4, s.W.byteAt (4 * 3 + k) = some (byteOf w k) := fun k hk => by
    rw [Memory.byteAt_four_mul_add _ 3 hk, hw, Option.map_some]
  have hfield : ∀ off n, s.field ⟨3, off, n⟩ = extractBits w off n := fun off n => State.field_of_word hw
  have hflag : ∀ off i, off + i = 15 → i < 8 →
      (s.field ⟨3, off, 1⟩).toNat = ((byteOf w 1).getLsbD i).toNat := fun off i hsum hi => by
    rw [hfield, extractBits_one_toNat, byteOf_getLsbD w (by decide) hi,
      show 31 - off = 24 - 8 * 1 + i by omega]
  refine ⟨_, _, hbyte 0 (by decide), hbyte 1 (by decide), ?_, hflag 8 7 rfl (by decide), hflag 9 6 rfl (by decide),
    hflag 10 5 rfl (by decide), hflag 11 4 rfl (by decide), hflag 12 3 rfl (by decide), hflag 13 2 rfl (by decide),
    hflag 14 1 rfl (by decide), hflag 15 0 rfl (by decide)⟩
  rw [byteOf_toNat, State.field_of_word hw, State.field_of_word hw]
  exact extractBits_append_toNat (off := 0) (p := 4) (w := 4) (by decide) w

end Sys2Proof.Machine
end

section
/-!
The shipped tables (spec/10_state.md R27, R28) and the textual form (spec/30_encoding.md R69, R70): a field name finds
its row, because the names of a table differ, and a line with it stands for what the command byte of the row decodes to.
-/

namespace Sys2Proof.Machine

/-- Settles O60: the checks run on the three tables. -/
theorem shippedLayoutsAreWellFormed : Obligations.ShippedLayoutsAreWellFormed := by
  refine ⟨fun ht => ?_, rfl, rfl, rfl⟩
  cases ht <;> exact ⟨by decide, by decide, by decide⟩

/-- No name stands twice in a table (R64). -/
theorem fields_names_nodup (ht : HeaderType) : ((fields ht).map FieldRow.name).Nodup := by
  cases ht <;> decide

section
variable {ht : HeaderType} {fid : Nat} {row : FieldRow}

/-- A row's name is found at the row's number (R64, R69). -/
theorem fidOf_row (h : (fields ht)[fid]? = some row) : fidOf ht row.name = some fid := by
  obtain ⟨hlt, rfl⟩ := List.getElem?_eq_some_iff.1 h
  rw [fidOf, List.findIdx?_eq_some_iff_getElem]
  refine ⟨hlt, decide_eq_true rfl, fun j hj hsame => Nat.ne_of_lt hj ?_⟩
  have hname := of_decide_eq_true hsame
  rw [← (fields_names_nodup ht).getElem_inj_iff (hi := by simp; omega) (hj := by simp; omega)]
  simpa using hname

/-- The byte of GET decodes by the field identifier (R62, R64). -/
theorem decode_getCmd_eq (h : fid < 32) (v : Word) (b : List Byte) :
    decode ht ⟨getCmd fid, v, b⟩ = decodeGet ht fid := by
  obtain ⟨hop, hfid⟩ := getCmd_split h
  simp [decode, hop, hfid]

/-- The byte of SET decodes by the field identifier, to the value port (R62, R64). -/
theorem decode_setCmd_eq (h : fid < 32) (v : Word) (b : List Byte) :
    decode ht ⟨setCmd fid, v, b⟩ = decodeSet ht v fid := by
  obtain ⟨hop, hfid⟩ := setCmd_split h
  simp [decode, hop, hfid]

/-- A line GET with a row's name stands for what the row's number decodes to (R69). -/
theorem assemble_get_row (h : (fields ht)[fid]? = some row) :
    assemble ht (.get row.name) = (decodeGet ht fid).toOption := by
  rw [assemble, assembleGet, fidOf_row h, Option.bind_some]

/-- A line SET with a row's name and a value stands for what the row's number decodes to with the value whole (R69). -/
theorem assemble_set_row (h : (fields ht)[fid]? = some row) (v : Word) :
    assemble ht (.set row.name v.toNat) = (decodeSet ht v fid).toOption := by
  rw [assemble, assembleSet, if_pos v.isLt, fidOf_row h, Option.bind_some, BitVec.ofNat_toNat, BitVec.setWidth_eq]

/-- A number of `2^32` or more stands for no command (log entry 13). -/
theorem assemble_set_tooLarge (field : String) {n : Nat} (h : 2 ^ 32 ≤ n) : assemble ht (.set field n) = none :=
  if_neg (Nat.not_lt.2 h)

/-- A boolean is 1 or 0 on a 1-bit field, and stands for no command on a wider one (R70; log entry 13). -/
theorem assemble_setBool_row (h : (fields ht)[fid]? = some row) (x : Bool) :
    assemble ht (.setBool row.name x) =
      if row.desc.w = 1 then assemble ht (.set row.name (if x then 1 else 0)) else none := by
  have hdesc : (fidOf ht row.name).bind (desc ht) = some row.desc := by
    rw [fidOf_row h, Option.bind_some, desc, h, Option.map_some]
  simp only [assemble, assembleSetBool, hdesc]
  cases x <;> rfl

/-- A line LDB with the instance's number of bytes stands for the LDB of them (R69). -/
theorem assemble_ldb {b : List Byte} (h : b.length = ht.numBytes) :
    assemble ht (.ldb (b.map BitVec.toNat)) = some (.ldb b) := by
  have hbytes : (b.map BitVec.toNat).all (fun n => decide (n < 256)) = true := by
    simp only [List.all_map, List.all_eq_true]
    exact fun x _ => decide_eq_true x.isLt
  rw [assemble, assembleLdb, if_pos ⟨(List.length_map ..).trans h, hbytes⟩, List.map_map]
  simp [Function.comp_def]

/-- A line LDB with another number of bytes, or with a byte above 255, stands for no command (log entry 13). -/
theorem assemble_ldb_none {ns : List Nat} (h : ns.length ≠ ht.numBytes ∨ ∃ n ∈ ns, 256 ≤ n) :
    assemble ht (.ldb ns) = none := by
  refine if_neg fun ⟨hlen, hall⟩ => ?_
  rcases h with hne | ⟨n, hn, hbig⟩
  · exact hne hlen
  · exact Nat.not_lt.2 hbig (of_decide_eq_true (List.all_eq_true.1 hall n hn))

end

/-- Settles O46: the lines without a name by reading them, GET and SET by the row of their name, and the enumerated
lines name by name. -/
theorem textualFormsStandForTheirCommands : Obligations.TextualFormsStandForTheirCommands := by
  have hclr : readLine "CLR".toList = some .clr := by decide
  have hstb : readLine "STB".toList = some .stb := by decide
  refine ⟨fun ht => ⟨rfl, rfl, congrArg (·.bind (assemble ht)) hclr, congrArg (·.bind (assemble ht)) hstb,
    fun _ => assemble_ldb, fun _ => assemble_ldb_none⟩, fun ht fid row v b hrow => ?_, ?_, ?_, ?_, ?_, ?_, ?_⟩
  · have hlt := Nat.lt_trans (fid_lt_of_row hrow) (fields_length_lt ht)
    obtain ⟨i, hi, -⟩ := decodeGet_row hrow
    obtain ⟨j, hj, -⟩ := decodeSet_row v hrow
    refine ⟨i, j, (decode_getCmd_eq hlt v b).trans hi, ?_, (decode_setCmd_eq hlt v b).trans hj, ?_,
      fun _ => assemble_set_tooLarge row.name, assemble_setBool_row hrow⟩
    · rw [assemble_get_row hrow, hi]
      rfl
    · rw [assemble_set_row hrow, hj]
      rfl
  all_goals
    intro n
    cases n <;> decide

end Sys2Proof.Machine
end
